-- ==== Sys2Proof/Word.lean ====
section
/-! DEFINITION. The plainest types of the model: bytes, cell times, station and group numbers, and a table of four like things. -/

namespace Sys2Proof

/-- One byte of a frame. -/
abbrev Byte := BitVec 8

/-- A value of the cell clock, in µs (R1). Comparisons and differences are plain ones, as R1 says. -/
abbrev CellTime := Nat

/-- A station S0..S3. -/
abbrev Station := Fin 4

/-- A coupling group G0..G3. -/
abbrev GroupId := Fin 4

/-- One thing per station, or one per group. -/
structure Quad (α : Type) where
  i0 : α
  i1 : α
  i2 : α
  i3 : α
deriving DecidableEq, Repr

/-- The entry of number `i`. -/
def Quad.get {α : Type} (q : Quad α) (i : Fin 4) : α :=
  match i with
  | 0 => q.i0
  | 1 => q.i1
  | 2 => q.i2
  | 3 => q.i3

/-- The table with the entry of number `i` replaced. -/
def Quad.set {α : Type} (q : Quad α) (i : Fin 4) (a : α) : Quad α :=
  match i with
  | 0 => { q with i0 := a }
  | 1 => { q with i1 := a }
  | 2 => { q with i2 := a }
  | 3 => { q with i3 := a }

/-- The table whose entry `i` is `f i`. -/
def Quad.ofFn {α : Type} (f : Fin 4 → α) : Quad α :=
  { i0 := f 0, i1 := f 1, i2 := f 2, i3 := f 3 }

/-- The table with four equal entries. -/
def Quad.fill {α : Type} (a : α) : Quad α :=
  { i0 := a, i1 := a, i2 := a, i3 := a }

/-- The entries in the order of their numbers. -/
def Quad.toList {α : Type} (q : Quad α) : List α := [q.i0, q.i1, q.i2, q.i3]

/-- The four numbers, in order. -/
def allFour : List (Fin 4) := [0, 1, 2, 3]

end Sys2Proof
end

