-- ==== Sys2Proof/Syntax.lean ====
section
/-! DEFINITION. The commands of the part: one constructor of `Instr` per row of the table of operations and events, with the operands each carries; the request codes of section 10.7. -/

namespace Sys2Proof

/-- The levels of the input lines that the part samples at the end of a cold reset (R7, R162).
`estopIn` is true where the line is low, that is asserted. -/
structure LineLevels where
  encA : Quad Bool
  encB : Quad Bool
  tripIn : Bool
  estopIn : Bool
deriving DecidableEq, Repr

/-- The content of an offer word (R23): everything but the acknowledge mark. -/
structure OfferContent where
  /-- bit 0 P250, bit 1 P500, bit 2 P1000, bit 3 P2000 -/
  classes : BitVec 4
  feedback : Bool
  /-- in units of 100 N -/
  ceiling : BitVec 8
  identity : BitVec 8
deriving DecidableEq, Repr

/-- An offer word (R23). -/
structure OfferWord where
  content : OfferContent
  mark : Bool
deriving DecidableEq, Repr

/-- The fields of a status frame (R37). `driveSpeed` is carried in a mode with feedback alone. -/
structure StatusFrame where
  force : BitVec 32
  driveSpeed : BitVec 32
  ready : Bool
  fault : Bool
  echo : BitVec 4
deriving DecidableEq, Repr

/-- A frame arriving on DLK_RX (section 2.2): one whose check fails, or a good offer or status frame. -/
inductive DlkFrame where
  | badCheck
  | offer (w : OfferWord)
  | status (f : StatusFrame)
deriving DecidableEq, Repr

/-- A frame the part sends on DLK_TX: an offer word (R23) or a cycle frame (R34). -/
inductive DlkTxFrame where
  | offer (w : OfferWord)
  | cycle (demand : Int) (enable : Bool) (seq : BitVec 4)
deriving DecidableEq, Repr

/-- The six filtered kinds (R144). -/
inductive FilterKind where
  | overspeed
  | encoder
  | link
  | mismatch
  | sync
  | tripIn
deriving DecidableEq, Repr

/-- One of the 21 filtered trip-class flags (R142). -/
inductive FilteredId where
  | overspeed (n : Station)
  | encoder (n : Station)
  | link (n : Station)
  | mismatch (n : Station)
  | sync (g : GroupId)
  | tripIn
deriving DecidableEq, Repr

/-- The kind of a filtered flag. -/
def FilteredId.kind : FilteredId → FilterKind
  | .overspeed _ => .overspeed
  | .encoder _ => .encoder
  | .link _ => .link
  | .mismatch _ => .mismatch
  | .sync _ => .sync
  | .tripIn => .tripIn

/-- The defined requests, in the order of section 10.7. -/
inductive ReqKind where
  | clockRead | markArm | markRead | encoderRead | encoderCounters
  | linkEnable | linkRestart | linkStatus | linkCounters
  | calWrite | calRead | calLock | calState | capabilityRead | stationSet | stationRead
  | groupDefine | groupTune | groupRead | engage | release | disband
  | segmentQueue | segmentFlush | segmentCancel | scheduleRead
  | permitTime | permitGrant | permitRenew | permitRead
  | filterSet | sourceEnable | flagsRead | flagsClear | forceSet | noticeMask
  | excursionFetch | windowOpen | windowRead | windowClose | ringRead | ringFreeze | ringUnfreeze
  | cellStatus | portCounters | resetPrepare | resetExecute
deriving DecidableEq, Repr

/-- Section 10.7: the code of a request. -/
def ReqKind.code : ReqKind → Byte
  | .clockRead => 0x01#8 | .markArm => 0x02#8 | .markRead => 0x03#8
  | .encoderRead => 0x04#8 | .encoderCounters => 0x05#8
  | .linkEnable => 0x10#8 | .linkRestart => 0x11#8 | .linkStatus => 0x12#8 | .linkCounters => 0x13#8
  | .calWrite => 0x18#8 | .calRead => 0x19#8 | .calLock => 0x1A#8 | .calState => 0x1B#8
  | .capabilityRead => 0x1C#8 | .stationSet => 0x1D#8 | .stationRead => 0x1E#8
  | .groupDefine => 0x20#8 | .groupTune => 0x21#8 | .groupRead => 0x22#8
  | .engage => 0x23#8 | .release => 0x24#8 | .disband => 0x25#8
  | .segmentQueue => 0x28#8 | .segmentFlush => 0x29#8 | .segmentCancel => 0x2A#8 | .scheduleRead => 0x2B#8
  | .permitTime => 0x30#8 | .permitGrant => 0x31#8 | .permitRenew => 0x32#8 | .permitRead => 0x33#8
  | .filterSet => 0x38#8 | .sourceEnable => 0x39#8 | .flagsRead => 0x3A#8
  | .flagsClear => 0x3B#8 | .forceSet => 0x3C#8 | .noticeMask => 0x3D#8
  | .excursionFetch => 0x40#8 | .windowOpen => 0x41#8 | .windowRead => 0x42#8 | .windowClose => 0x43#8
  | .ringRead => 0x44#8 | .ringFreeze => 0x45#8 | .ringUnfreeze => 0x46#8
  | .cellStatus => 0x48#8 | .portCounters => 0x49#8 | .resetPrepare => 0x4A#8 | .resetExecute => 0x4B#8

/-- Section 10.7: the body length that R186 tests. -/
def ReqKind.bodyLength : ReqKind → Nat
  | .clockRead | .markArm | .markRead | .calState | .scheduleRead | .permitRead | .flagsRead
  | .cellStatus | .portCounters | .resetPrepare | .resetExecute => 0
  | .encoderRead | .encoderCounters | .linkRestart | .linkStatus | .linkCounters
  | .calRead | .calLock | .stationRead | .groupRead => 1
  | .linkEnable | .capabilityRead | .engage | .release | .disband | .segmentFlush
  | .permitGrant | .permitRenew | .excursionFetch | .windowRead | .windowClose
  | .ringFreeze | .ringUnfreeze => 2
  | .segmentCancel | .permitTime | .filterSet | .sourceEnable | .forceSet | .windowOpen => 4
  | .ringRead => 6
  | .flagsClear | .noticeMask => 8
  | .calWrite => 10
  | .stationSet => 16
  | .groupTune => 20
  | .groupDefine | .segmentQueue => 40

/-- Every defined request. -/
def ReqKind.all : List ReqKind :=
  [.clockRead, .markArm, .markRead, .encoderRead, .encoderCounters] ++
  [.linkEnable, .linkRestart, .linkStatus, .linkCounters] ++
  [.calWrite, .calRead, .calLock, .calState, .capabilityRead, .stationSet, .stationRead] ++
  [.groupDefine, .groupTune, .groupRead, .engage, .release, .disband] ++
  [.segmentQueue, .segmentFlush, .segmentCancel, .scheduleRead] ++
  [.permitTime, .permitGrant, .permitRenew, .permitRead] ++
  [.filterSet, .sourceEnable, .flagsRead, .flagsClear, .forceSet, .noticeMask] ++
  [.excursionFetch, .windowOpen, .windowRead, .windowClose, .ringRead, .ringFreeze, .ringUnfreeze] ++
  [.cellStatus, .portCounters, .resetPrepare, .resetExecute]

/-- The request of a code, or none for an unassigned code (R186). -/
def ReqKind.ofCode (c : Byte) : Option ReqKind := ReqKind.all.find? (fun k => k.code == c)

/-- The commands: one constructor per row of spec/opcode_table.json. A request row carries the TAG and the BODY of
its frame; UNASSIGNED_CODE carries the code too. -/
inductive Instr where
  | coldReset (lines : LineLevels)
  | portReset
  | markInEdge
  | encoderTransition (n : Station) (a b : Bool) (frac : Fin 32)
  | indexEvent (n : Station)
  | estimationIntervalExpiry (n : Station)
  | dlkFrameReceived (n : Station) (f : DlkFrame)
  | quietTimerExpiry (n : Station)
  | offerTimerExpiry (n : Station)
  | negotiationTimerExpiry (n : Station)
  | updateTimerExpiry (n : Station)
  | calWriteCompletion
  | calLockCompletion
  | periodTimerExpiry (g : GroupId)
  | engageTimerExpiry (g : GroupId)
  | segmentActivation
  | blendStep (g : GroupId)
  | durationEnd (g : GroupId)
  | permitTimerExpiry
  | filterTimerExpiry (i : FilteredId)
  | tripInChange (level : Bool)
  | estopInChange (asserted : Bool)
  | mpFrameComplete (check2 : Byte)
  | gapTimerExpiry
  | replySent
  | unassignedCode (code tag : Byte) (body : List Byte)
  | clockRead (tag : Byte) (body : List Byte)
  | markArm (tag : Byte) (body : List Byte)
  | markRead (tag : Byte) (body : List Byte)
  | encoderRead (tag : Byte) (body : List Byte)
  | encoderCounters (tag : Byte) (body : List Byte)
  | linkEnable (tag : Byte) (body : List Byte)
  | linkRestart (tag : Byte) (body : List Byte)
  | linkStatus (tag : Byte) (body : List Byte)
  | linkCounters (tag : Byte) (body : List Byte)
  | calWrite (tag : Byte) (body : List Byte)
  | calRead (tag : Byte) (body : List Byte)
  | calLock (tag : Byte) (body : List Byte)
  | calState (tag : Byte) (body : List Byte)
  | capabilityRead (tag : Byte) (body : List Byte)
  | stationSet (tag : Byte) (body : List Byte)
  | stationRead (tag : Byte) (body : List Byte)
  | groupDefine (tag : Byte) (body : List Byte)
  | groupTune (tag : Byte) (body : List Byte)
  | groupRead (tag : Byte) (body : List Byte)
  | engage (tag : Byte) (body : List Byte)
  | release (tag : Byte) (body : List Byte)
  | disband (tag : Byte) (body : List Byte)
  | segmentQueue (tag : Byte) (body : List Byte)
  | segmentFlush (tag : Byte) (body : List Byte)
  | segmentCancel (tag : Byte) (body : List Byte)
  | scheduleRead (tag : Byte) (body : List Byte)
  | permitTime (tag : Byte) (body : List Byte)
  | permitGrant (tag : Byte) (body : List Byte)
  | permitRenew (tag : Byte) (body : List Byte)
  | permitRead (tag : Byte) (body : List Byte)
  | filterSet (tag : Byte) (body : List Byte)
  | sourceEnable (tag : Byte) (body : List Byte)
  | flagsRead (tag : Byte) (body : List Byte)
  | flagsClear (tag : Byte) (body : List Byte)
  | forceSet (tag : Byte) (body : List Byte)
  | noticeMask (tag : Byte) (body : List Byte)
  | excursionFetch (tag : Byte) (body : List Byte)
  | windowOpen (tag : Byte) (body : List Byte)
  | windowRead (tag : Byte) (body : List Byte)
  | windowClose (tag : Byte) (body : List Byte)
  | ringRead (tag : Byte) (body : List Byte)
  | ringFreeze (tag : Byte) (body : List Byte)
  | ringUnfreeze (tag : Byte) (body : List Byte)
  | cellStatus (tag : Byte) (body : List Byte)
  | portCounters (tag : Byte) (body : List Byte)
  | resetPrepare (tag : Byte) (body : List Byte)
  | resetExecute (tag : Byte) (body : List Byte)
  | mpByteReceived (b : Byte) (lineError : Bool)
deriving DecidableEq, Repr

/-- A request frame: its CODE, its TAG and its BODY (R180). -/
structure Frame where
  code : Byte
  tag : Byte
  body : List Byte
deriving DecidableEq, Repr

/-- The frame of a request row; none for the other rows. -/
def Instr.frame? : Instr → Option Frame
  | .coldReset _ | .portReset | .markInEdge | .encoderTransition _ _ _ _ | .indexEvent _
  | .estimationIntervalExpiry _ | .dlkFrameReceived _ _ | .quietTimerExpiry _ | .offerTimerExpiry _
  | .negotiationTimerExpiry _ | .updateTimerExpiry _ | .calWriteCompletion | .calLockCompletion
  | .periodTimerExpiry _ | .engageTimerExpiry _ | .segmentActivation | .blendStep _ | .durationEnd _
  | .permitTimerExpiry | .filterTimerExpiry _ | .tripInChange _ | .estopInChange _
  | .mpFrameComplete _ | .gapTimerExpiry | .replySent | .mpByteReceived _ _ => none
  | .unassignedCode c t b => some ⟨c, t, b⟩
  | .clockRead t b => some ⟨ReqKind.clockRead.code, t, b⟩
  | .markArm t b => some ⟨ReqKind.markArm.code, t, b⟩
  | .markRead t b => some ⟨ReqKind.markRead.code, t, b⟩
  | .encoderRead t b => some ⟨ReqKind.encoderRead.code, t, b⟩
  | .encoderCounters t b => some ⟨ReqKind.encoderCounters.code, t, b⟩
  | .linkEnable t b => some ⟨ReqKind.linkEnable.code, t, b⟩
  | .linkRestart t b => some ⟨ReqKind.linkRestart.code, t, b⟩
  | .linkStatus t b => some ⟨ReqKind.linkStatus.code, t, b⟩
  | .linkCounters t b => some ⟨ReqKind.linkCounters.code, t, b⟩
  | .calWrite t b => some ⟨ReqKind.calWrite.code, t, b⟩
  | .calRead t b => some ⟨ReqKind.calRead.code, t, b⟩
  | .calLock t b => some ⟨ReqKind.calLock.code, t, b⟩
  | .calState t b => some ⟨ReqKind.calState.code, t, b⟩
  | .capabilityRead t b => some ⟨ReqKind.capabilityRead.code, t, b⟩
  | .stationSet t b => some ⟨ReqKind.stationSet.code, t, b⟩
  | .stationRead t b => some ⟨ReqKind.stationRead.code, t, b⟩
  | .groupDefine t b => some ⟨ReqKind.groupDefine.code, t, b⟩
  | .groupTune t b => some ⟨ReqKind.groupTune.code, t, b⟩
  | .groupRead t b => some ⟨ReqKind.groupRead.code, t, b⟩
  | .engage t b => some ⟨ReqKind.engage.code, t, b⟩
  | .release t b => some ⟨ReqKind.release.code, t, b⟩
  | .disband t b => some ⟨ReqKind.disband.code, t, b⟩
  | .segmentQueue t b => some ⟨ReqKind.segmentQueue.code, t, b⟩
  | .segmentFlush t b => some ⟨ReqKind.segmentFlush.code, t, b⟩
  | .segmentCancel t b => some ⟨ReqKind.segmentCancel.code, t, b⟩
  | .scheduleRead t b => some ⟨ReqKind.scheduleRead.code, t, b⟩
  | .permitTime t b => some ⟨ReqKind.permitTime.code, t, b⟩
  | .permitGrant t b => some ⟨ReqKind.permitGrant.code, t, b⟩
  | .permitRenew t b => some ⟨ReqKind.permitRenew.code, t, b⟩
  | .permitRead t b => some ⟨ReqKind.permitRead.code, t, b⟩
  | .filterSet t b => some ⟨ReqKind.filterSet.code, t, b⟩
  | .sourceEnable t b => some ⟨ReqKind.sourceEnable.code, t, b⟩
  | .flagsRead t b => some ⟨ReqKind.flagsRead.code, t, b⟩
  | .flagsClear t b => some ⟨ReqKind.flagsClear.code, t, b⟩
  | .forceSet t b => some ⟨ReqKind.forceSet.code, t, b⟩
  | .noticeMask t b => some ⟨ReqKind.noticeMask.code, t, b⟩
  | .excursionFetch t b => some ⟨ReqKind.excursionFetch.code, t, b⟩
  | .windowOpen t b => some ⟨ReqKind.windowOpen.code, t, b⟩
  | .windowRead t b => some ⟨ReqKind.windowRead.code, t, b⟩
  | .windowClose t b => some ⟨ReqKind.windowClose.code, t, b⟩
  | .ringRead t b => some ⟨ReqKind.ringRead.code, t, b⟩
  | .ringFreeze t b => some ⟨ReqKind.ringFreeze.code, t, b⟩
  | .ringUnfreeze t b => some ⟨ReqKind.ringUnfreeze.code, t, b⟩
  | .cellStatus t b => some ⟨ReqKind.cellStatus.code, t, b⟩
  | .portCounters t b => some ⟨ReqKind.portCounters.code, t, b⟩
  | .resetPrepare t b => some ⟨ReqKind.resetPrepare.code, t, b⟩
  | .resetExecute t b => some ⟨ReqKind.resetExecute.code, t, b⟩

end Sys2Proof
end

