-- ==== Sys2Proof/Decode.lean ====
section
/-! DEFINITION. The command a word spells by the table's bits. No row of the table gives bits, so no word spells one. -/

namespace Sys2Proof

/-- The part is a block: spec/opcode_table.json gives no row bits ("fields" is empty in every row). -/
def decodeTableWord (_nbits _w : Nat) : Option Instr := none

end Sys2Proof
end

