-- ==== Sys2Proof/Config.lean ====
section
/-! DEFINITION. The constants the spec fixes (timer lengths, capacities, the capability table) and the free values the spec leaves open. -/

namespace Sys2Proof.Config

/-- R15: the estimation interval, in µs. -/
def estimationInterval : Nat := 250
/-- R16: 64 ms, on the fine scale of 1/32 µs. -/
def crawlAgeFine : Nat := 64000 * 32
/-- R11: the counted edges that clear transition-bad. -/
def validRunFull : Nat := 1000
/-- R26: the quiet time, in µs. -/
def quietTime : Nat := 150000
/-- R26: the offer period, in µs. -/
def offerPeriod : Nat := 1000
/-- R26: the negotiation time, in µs. -/
def negotiationTime : Nat := 2000000
/-- R45: the length of a calibration operation, in µs. -/
def calibrationTime : Nat := 40000
/-- R180: the gap time, in µs. -/
def gapTime : Nat := 2000
/-- R183: the time of one byte on the line, in µs. -/
def byteTime : Nat := 5
/-- R110: the capacity of the two segment collections together. -/
def segmentCapacity : Nat := 24
/-- R167: the capacity of the excursion log. -/
def logCapacity : Nat := 32
/-- R175: the slots of a period ring. -/
def ringDepth : Nat := 32
/-- R182: the frames the input queue holds. -/
def inputQueueCapacity : Nat := 4
/-- R180: the largest LEN of a frame. -/
def maxBody : Nat := 250
/-- R179: the sync byte. -/
def syncByte : Byte := 0xB5#8

/-- R54: the capability table. -/
def capabilityTable : List Byte :=
  [0x42#8, 0x3A#8, 3#8, 4#8, 4#8, 24#8, 32#8, 32#8, 0x0F#8, 250#8]

/-- Free value (log 2): which of several own events of the part that are due at one instant is taken first. -/
opaque freeChoice : Nat → Nat

/-- Free value (log 7): the travel a count leaves where the exact travel lies outside the signed 64-bit range of R10. -/
opaque freeTravel : Nat → BitVec 64

end Sys2Proof.Config
end

