-- ==== Sys2Proof/Machine/State.lean ====
section
/-! DEFINITION. The state of the part, block by block, as plain data; the reasons a step can stop; the state right after a cold reset. -/

namespace Sys2Proof.Machine

/-- The reasons for which the part stops: none. The spec stops the part for no event and no request
(a request is refused by its reply status, R187), so no meaning raises a fault. Safe. -/
inductive Fault where
deriving DecidableEq, Repr

/-- The reasons for which the model gives no meaning. -/
inductive Refusal where
  /-- Raised by `exec` for a row that has no meaning yet, with the row's mnemonic; no row is left so. Safe. -/
  | notModelled (mnemonic : String)
deriving DecidableEq, Repr

/-- What a meaning answers. -/
abbrev Answer (σ : Type) := Host.Outcome σ Fault Refusal

/-! ## Mark capture (R3) -/

structure MarkCapture where
  armed : Bool
  valid : Bool
  time : Option CellTime
  count : BitVec 16
  lastEdge : Option CellTime
deriving DecidableEq, Repr

/-- R3. -/
def MarkCapture.reset : MarkCapture :=
  { armed := false, valid := false, time := none, count := 0#16, lastEdge := none }

/-! ## Encoder capture units (section 1.3) -/

/-- A counted edge: its fine timestamp and the position count after it (R15). -/
structure Edge where
  fine : Nat
  count : BitVec 32
deriving DecidableEq, Repr

structure EncoderUnit where
  lineA : Bool
  lineB : Bool
  count : BitVec 32
  travel : Int
  remainder : Nat
  lastIndex : Option (BitVec 32)
  prevIndex : Option (BitVec 32)
  indexArmed : Bool
  indexBad : Bool
  transitionBad : Bool
  validRun : Nat
  windowStart : Option Edge
  lastCounted : Option Edge
  speed : Int
  crawl : Bool
  overspeed : Bool
  illegalCount : Nat
  indexErrors : Nat
  estimateDue : CellTime
deriving DecidableEq, Repr

/-- R19, with the levels sampled at the end of the reset. -/
def EncoderUnit.reset (a b : Bool) : EncoderUnit :=
  { lineA := a, lineB := b, count := 0#32, travel := 0, remainder := 0, lastIndex := none, prevIndex := none,
    indexArmed := false, indexBad := false, transitionBad := false, validRun := Config.validRunFull,
    windowStart := none, lastCounted := none, speed := 0, crawl := true, overspeed := false,
    illegalCount := 0, indexErrors := 0, estimateDue := Config.estimationInterval }

/-! ## Drive links (section 2.1) -/

inductive LinkState where
  | off | quiet | offer | acknowledge | confirm | up | lost | noMatch
deriving DecidableEq, Repr

inductive LinkClass where
  | p250 | p500 | p1000 | p2000
deriving DecidableEq, Repr

/-- The update period of a class, in µs (R23). -/
def LinkClass.period : LinkClass → Nat
  | .p250 => 250
  | .p500 => 500
  | .p1000 => 1000
  | .p2000 => 2000

structure LinkMode where
  cls : LinkClass
  feedback : Bool
deriving DecidableEq, Repr

/-- The recorded drive offer with the acknowledge mark last received on it (section 2.1, R40). -/
structure RecordedOffer where
  content : OfferContent
  mark : Bool
deriving DecidableEq, Repr

/-- The outstanding cycle frame (section 2.1). -/
structure Outstanding where
  seq : BitVec 4
  demand : Int
  judged : Bool
deriving DecidableEq, Repr

structure SentDemand where
  demand : Int
  enable : Bool
deriving DecidableEq, Repr

/-- The frame most recently sent on DLK_TX: the model's view of the output line (log 17). -/
structure SentFrame where
  at_ : CellTime
  frame : DlkTxFrame
deriving DecidableEq, Repr

structure Link where
  state : LinkState
  quietDue : Option CellTime
  offerDue : Option CellTime
  negotiationDue : Option CellTime
  updateDue : Option CellTime
  offerContent : Option OfferContent
  offerRun : Nat
  plainRun : Nat
  markedRun : Nat
  confirmCount : Nat
  recorded : Option RecordedOffer
  mode : Option LinkMode
  ceiling : Option Nat
  seq : BitVec 4
  outstanding : Option Outstanding
  missingRun : Nat
  ready : Bool
  fault : Bool
  force : Option Int
  driveSpeed : Option Int
  lastSent : Option SentDemand
  mismatch : Bool
  good : Bool
  checkErrors : Nat
  missedReplies : Nat
  negotiationFailures : Nat
  sent : Option SentFrame
deriving DecidableEq, Repr

/-- R43. -/
def Link.reset : Link :=
  { state := .off, quietDue := none, offerDue := none, negotiationDue := none, updateDue := none,
    offerContent := none, offerRun := 0, plainRun := 0, markedRun := 0, confirmCount := 0,
    recorded := none, mode := none, ceiling := none, seq := 0#4, outstanding := none, missingRun := 0,
    ready := false, fault := false, force := none, driveSpeed := none, lastSent := none,
    mismatch := false, good := false, checkErrors := 0, missedReplies := 0, negotiationFailures := 0,
    sent := none }

/-! ## Calibration store (R44, R45) -/

structure CalRecord where
  circumference : Nat
  mass : Nat
  lines : Nat
  valid : Bool
  locked : Bool
  serial : Nat
deriving DecidableEq, Repr

/-- R44: a record that has never been written. -/
def CalRecord.factory : CalRecord :=
  { circumference := 0, mass := 0, lines := 0, valid := false, locked := false, serial := 0 }

/-- The three constants of a record. -/
structure CalConstants where
  circumference : Nat
  mass : Nat
  lines : Nat
deriving DecidableEq, Repr

/-- The kind of an operation, a write with its new constants (R45). -/
inductive CalOpKind where
  | write (new : CalConstants)
  | lock
deriving DecidableEq, Repr

structure CalOp where
  kind : CalOpKind
  station : Station
  acceptedAt : CellTime
  due : CellTime
deriving DecidableEq, Repr

/-- The last completed operation (R45). -/
structure CalDone where
  wasLock : Bool
  station : Station
  at_ : CellTime
deriving DecidableEq, Repr

/-- The store: BUSY while `op` is present, else IDLE. -/
structure CalStore where
  records : Quad CalRecord
  op : Option CalOp
  last : Option CalDone
deriving DecidableEq, Repr

/-! ## Station settings (R55) -/

structure Settings where
  decode : Nat
  invert : Bool
  checkIndex : Bool
  tolerance : Nat
  overspeedLimit : Nat
  forceLimit : Nat
  mismatchLimit : Nat
  classes : BitVec 4
  autoRenegotiate : Bool
  linkEnable : Bool
deriving DecidableEq, Repr

/-- R55. -/
def Settings.reset : Settings :=
  { decode := 4, invert := false, checkIndex := false, tolerance := 4, overspeedLimit := 40000,
    forceLimit := 5000, mismatchLimit := 1000, classes := 0xF#4, autoRenegotiate := true,
    linkEnable := false }

/-! ## Excursions (R163) -/

inductive ExcKind where
  | slip | engageTimeout | trip
deriving DecidableEq, Repr

inductive ExcOutcome where
  | recovered | tripped | held | released | timeout
deriving DecidableEq, Repr

/-- An open SLIP record, held at its group (R164). -/
structure OpenSlip where
  seq : BitVec 16
  start : CellTime
  peakPosition : Nat
  peakSpeed : Nat
  tag : Option Nat
deriving DecidableEq, Repr

/-- A closed excursion record. -/
structure ExcRecord where
  seq : BitVec 16
  group : GroupId
  kind : ExcKind
  start : CellTime
  stop : CellTime
  peakPosition : Nat
  peakSpeed : Nat
  outcome : ExcOutcome
  tag : Option Nat
deriving DecidableEq, Repr

/-- The excursion log with its lost count, and the excursion counter (R163, R167). -/
structure ExcursionStore where
  log : List ExcRecord
  lost : Nat
  counter : BitVec 16
deriving DecidableEq, Repr

/-- R169. -/
def ExcursionStore.reset : ExcursionStore := { log := [], lost := 0, counter := 0#16 }

/-! ## Coupling groups (R59, R61) -/

inductive GroupKind where
  | linked | averaged
deriving DecidableEq, Repr

inductive GroupState where
  | undefined | free | engaging | locked | slipping | held | tripped
deriving DecidableEq, Repr

/-- The driving states (section 4.2). -/
def GroupState.driving : GroupState → Bool
  | .engaging | .locked | .slipping => true
  | .undefined | .free | .held | .tripped => false

/-- The running states (section 4.2). -/
def GroupState.running : GroupState → Bool
  | .engaging | .locked | .slipping | .held => true
  | .undefined | .free | .tripped => false

/-- A member with its share in per-mille (R59). -/
structure Member where
  station : Station
  share : Nat
deriving DecidableEq, Repr

/-- The items GROUP TUNE replaces (R68). -/
structure Tuning where
  kp : Nat
  kd : Nat
  correctionLimit : Nat
  lockPosition : Nat
  lockSpeed : Nat
  tripPosition : Nat
  tripSpeed : Nat
deriving DecidableEq, Repr

structure GroupDef where
  kind : GroupKind
  members : List Member
  period : Nat
  tuning : Tuning
  ramp : Nat
  engageTimeout : Nat
deriving DecidableEq, Repr

structure Group where
  state : GroupState
  defn : Option GroupDef
  offsets : Option (List Int)
  history : List Int
  rampProgress : Nat
  confirm : Nat
  openSlip : Option OpenSlip
  periodSeq : BitVec 32
  periodDue : Option CellTime
  engageDue : Option CellTime
  /-- The cell time of the last accepted ENGAGE: the start time of an ENGAGE_TIMEOUT record (R73, log 18). -/
  engagedAt : Option CellTime
  sync : Bool
deriving DecidableEq, Repr

/-- R61. -/
def Group.reset : Group :=
  { state := .undefined, defn := none, offsets := none, history := List.replicate 8 0, rampProgress := 0,
    confirm := 0, openSlip := none, periodSeq := 0#32, periodDue := none, engageDue := none,
    engagedAt := none, sync := false }

/-! ## Road-load scheduler (R109, R110, R115) -/

inductive Basis where
  | absolute | mark
deriving DecidableEq, Repr

/-- The five coefficients (R95). -/
structure Coeffs where
  a : Int
  b : Int
  c : Int
  mass : Int
  grade : Int
deriving DecidableEq, Repr

structure Segment where
  group : GroupId
  basis : Basis
  /-- the cell time of an ABSOLUTE segment, the offset of a MARK segment -/
  start : Nat
  duration : Option Nat
  coeffs : Coeffs
  ramp : Nat
  tag : Nat
  arrival : Nat
deriving DecidableEq, Repr

/-- A segment of the resolved queue with its resolved start. -/
structure Resolved where
  seg : Segment
  due : CellTime
deriving DecidableEq, Repr

structure RoadQueue where
  resolved : List Resolved
  unresolved : List Segment
  nextArrival : Nat
deriving DecidableEq, Repr

/-- R129. -/
def RoadQueue.reset : RoadQueue := { resolved := [], unresolved := [], nextArrival := 0 }

inductive ScheduleState where
  | idle | active | dry
deriving DecidableEq, Repr

structure Blend where
  source : Coeffs
  target : Coeffs
  ramp : Nat
  elapsed : Nat
deriving DecidableEq, Repr

structure Schedule where
  state : ScheduleState
  active : Option Segment
  activatedAt : Option CellTime
  endsAt : Option CellTime
  applied : Option Coeffs
  blend : Option Blend
  late : Nat
deriving DecidableEq, Repr

/-- R115. -/
def Schedule.reset : Schedule :=
  { state := .idle, active := none, activatedAt := none, endsAt := none, applied := none, blend := none,
    late := 0 }

/-! ## Permit unit (R130) -/

structure Permit where
  mask : BitVec 4
  time : Nat
  due : Option CellTime
deriving DecidableEq, Repr

/-- R141. -/
def Permit.reset : Permit := { mask := 0#4, time := 0, due := none }

/-! ## Protection monitor (R142, R144) -/

inductive FilterState where
  | clear | pending | latched
deriving DecidableEq, Repr

/-- A filtered trip-class flag: its state, its filter timer and the level of its condition as last handed (R142). -/
structure Filtered where
  state : FilterState
  due : Option CellTime
  level : Bool
deriving DecidableEq, Repr

def Filtered.reset : Filtered := { state := .clear, due := none, level := false }

/-- The 21 filtered flags. -/
structure FilteredFlags where
  overspeed : Quad Filtered
  encoder : Quad Filtered
  link : Quad Filtered
  mismatch : Quad Filtered
  sync : Quad Filtered
  tripIn : Filtered
deriving DecidableEq, Repr

def FilteredFlags.reset : FilteredFlags :=
  { overspeed := Quad.fill Filtered.reset, encoder := Quad.fill Filtered.reset,
    link := Quad.fill Filtered.reset, mismatch := Quad.fill Filtered.reset,
    sync := Quad.fill Filtered.reset, tripIn := Filtered.reset }

/-- One thing per filtered kind (R144). -/
structure PerKind (α : Type) where
  overspeed : α
  encoder : α
  link : α
  mismatch : α
  sync : α
  tripIn : α
deriving DecidableEq, Repr

/-- The alerts other than FORCE_ALERT (R142). -/
structure Alerts where
  powerOn : Bool
  restart : Bool
  permitExpired : Bool
  scheduleDry : Quad Bool
  calUnlocked : Bool
  portCheck : Bool
  logLost : Bool
deriving DecidableEq, Repr

def Alerts.none_ : Alerts :=
  { powerOn := false, restart := false, permitExpired := false, scheduleDry := Quad.fill false,
    calUnlocked := false, portCheck := false, logLost := false }

structure Monitor where
  flags : FilteredFlags
  times : PerKind Nat
  enabled : PerKind Bool
  estop : Bool
  forceTrip : Bool
  forceAlert : Bool
  alerts : Alerts
  noticeMask : BitVec 34
  tripCount : Nat
  tripOut : Bool
  attnOut : Bool
  /-- the level of TRIP_IN -/
  tripIn : Bool
  /-- ESTOP_IN is asserted, that is low -/
  estopIn : Bool
deriving DecidableEq, Repr

/-- R162 before the conditions of that moment are handed: every flag clear but the alert of the reset, and ESTOP by
its line. -/
def Monitor.reset (alerts : Alerts) (tripIn estopIn : Bool) : Monitor :=
  { flags := FilteredFlags.reset,
    times := { overspeed := 500, encoder := 200, link := 100, mismatch := 2000, sync := 1000, tripIn := 50 },
    enabled := { overspeed := true, encoder := true, link := true, mismatch := true, sync := true, tripIn := true },
    estop := estopIn, forceTrip := false, forceAlert := false, alerts := alerts,
    noticeMask := BitVec.allOnes 34, tripCount := 0, tripOut := false, attnOut := false,
    tripIn := tripIn, estopIn := estopIn }

/-! ## Validity windows (R170) and period rings (R175) -/

inductive WindowState where
  | closed | openValid | openInvalid
deriving DecidableEq, Repr

inductive CauseKind where
  | duration | held | tripped | timeout | dry | release | disband
deriving DecidableEq, Repr

structure Cause where
  kind : CauseKind
  at_ : CellTime
  seq : Option (BitVec 16)
deriving DecidableEq, Repr

structure Verdict where
  invalid : Bool
  cause : Option Cause
  limit : Nat
  openedAt : CellTime
  closedAt : CellTime
  byDisband : Bool
deriving DecidableEq, Repr

/-- `limit` and `openedAt` are held while the window is open, and are 0 while it is CLOSED. -/
structure Window where
  state : WindowState
  limit : Nat
  openedAt : CellTime
  cause : Option Cause
  last : Option Verdict
deriving DecidableEq, Repr

/-- R170. -/
def Window.reset : Window := { state := .closed, limit := 0, openedAt := 0, cause := none, last := none }

/-- R106. -/
structure RingEntry where
  seq : BitVec 32
  at_ : CellTime
  state : GroupState
  refSpeed : Int
  accel : Int
  force : Int
  maxPosition : Nat
  maxSpeed : Nat
  scaled : Bool
  limited : Bool
  demandLimited : Bool
  ramping : Bool
deriving DecidableEq, Repr

structure Ring where
  slots : List (Option RingEntry)
  next : Nat
  frozen : Bool
deriving DecidableEq, Repr

/-- R175. -/
def Ring.reset : Ring := { slots := List.replicate Config.ringDepth none, next := 0, frozen := false }

/-! ## Message port (R179, R182, R183, R188, R191) -/

/-- The twelve statuses (R185). -/
inductive Status where
  | ok | busy | state | full | locked | tripped | noLink | mismatch | notArmed | badValue | badLength
  | unknownCode
deriving DecidableEq, Repr

/-- R185: the value of a status. -/
def Status.code : Status → Byte
  | .ok => 0x00#8 | .busy => 0x01#8 | .state => 0x02#8 | .full => 0x03#8 | .locked => 0x04#8
  | .tripped => 0x05#8 | .noLink => 0x06#8 | .mismatch => 0x07#8 | .notArmed => 0x08#8
  | .badValue => 0x09#8 | .badLength => 0x0A#8 | .unknownCode => 0x0B#8

structure Reply where
  status : Status
  body : List Byte
deriving DecidableEq, Repr

/-- The receiver (R179). `assembling` holds the bytes after the sync byte. -/
inductive Receiver where
  | hunting
  | assembling (bytes : List Byte)
deriving DecidableEq, Repr

/-- The reply the transmitter is sending: the code and tag of its request, the reply, the instant its last byte has
been sent, and whether the port reset takes effect then (R183, R192). -/
structure Sending where
  code : Byte
  tag : Byte
  reply : Reply
  due : CellTime
  thenReset : Bool
deriving DecidableEq, Repr

structure Port where
  rx : Receiver
  gapDue : Option CellTime
  queue : List Frame
  tx : Option Sending
  checkCount : Nat
  framingCount : Nat
  prepared : Bool
deriving DecidableEq, Repr

/-- R193. -/
def Port.reset : Port :=
  { rx := .hunting, gapDue := none, queue := [], tx := none, checkCount := 0, framingCount := 0,
    prepared := false }

/-! ## The whole state -/

structure State where
  clock : CellTime
  mark : MarkCapture
  units : Quad EncoderUnit
  links : Quad Link
  cal : CalStore
  settings : Quad Settings
  groups : Quad Group
  /-- the posted demand of each station (R35, R61) -/
  posted : Quad Int
  road : RoadQueue
  scheds : Quad Schedule
  permit : Permit
  mon : Monitor
  exc : ExcursionStore
  windows : Quad Window
  rings : Quad Ring
  port : Port
  /-- the commands that wait, first in first out -/
  pending : List Instr
  /-- the number of free values drawn so far: the model's own field (log 27) -/
  freeCount : Nat
deriving DecidableEq, Repr

/-- The values every block takes at the end of a reset (R1, R3, R19, R43, R45, R55, R84, R129, R141, R162, R169, R170,
R175, R193), before the levels of that moment are handed to the monitor: the calibration records survive (R44), and the
queue of waiting commands and the counter of free values are not the part's. -/
def State.base (records : Quad CalRecord) (lines : LineLevels) (alerts : Alerts) (pending : List Instr)
    (freeCount : Nat) : State :=
  { clock := 0, mark := MarkCapture.reset,
    units := Quad.ofFn (fun n => EncoderUnit.reset (lines.encA.get n) (lines.encB.get n)),
    links := Quad.fill Link.reset, cal := { records := records, op := none, last := none },
    settings := Quad.fill Settings.reset, groups := Quad.fill Group.reset, posted := Quad.fill 0,
    road := RoadQueue.reset, scheds := Quad.fill Schedule.reset, permit := Permit.reset,
    mon := Monitor.reset alerts lines.tripIn lines.estopIn, exc := ExcursionStore.reset,
    windows := Quad.fill Window.reset, rings := Quad.fill Ring.reset, port := Port.reset,
    pending := pending, freeCount := freeCount }

/-- The line levels of `State.reset`: every encoder channel low, TRIP_IN and ESTOP_IN deasserted (log 8). -/
def LineLevels.quiet : LineLevels :=
  { encA := Quad.fill false, encB := Quad.fill false, tripIn := false, estopIn := false }

/-- The part right after its first cold reset: the records as they leave the factory (R44), POWER_ON latched and
ATTN_OUT asserted for it (R162). -/
def State.reset : State :=
  let s := State.base (Quad.fill CalRecord.factory) LineLevels.quiet { Alerts.none_ with powerOn := true } [] 0
  { s with mon := { s.mon with attnOut := true } }

end Sys2Proof.Machine
end

