-- ==== Sys2Proof/Machine/Operands.lean ====
section
/-! DEFINITION. The byte layouts of section 10.8: reading the fields of a request body, writing the fields of a reply body, and the value checks of R186 for every request body. -/

namespace Sys2Proof.Machine

/-! ## Fields (R194: little-endian, two's complement) -/

/-- The byte at an offset. -/
def byteAt (b : List Byte) (i : Nat) : Nat := (b.getD i 0#8).toNat

/-- An unsigned field of 2 bytes. -/
def u16At (b : List Byte) (i : Nat) : Nat := byteAt b i + 256 * byteAt b (i + 1)

/-- An unsigned field of 4 bytes. -/
def u32At (b : List Byte) (i : Nat) : Nat := u16At b i + 65536 * u16At b (i + 2)

/-- An unsigned field of 8 bytes. -/
def u64At (b : List Byte) (i : Nat) : Nat := u32At b i + 4294967296 * u32At b (i + 4)

/-- The signed number of `w` bits that an unsigned field stands for. -/
def signed (w v : Nat) : Int := if v < 2 ^ (w - 1) then (v : Int) else (v : Int) - (2 ^ w : Nat)

/-- A signed field of 2 bytes. -/
def i16At (b : List Byte) (i : Nat) : Int := signed 16 (u16At b i)

/-- A signed field of 4 bytes. -/
def i32At (b : List Byte) (i : Nat) : Int := signed 32 (u32At b i)

/-- `n` bytes of an unsigned value, the least significant first. -/
def le : Nat → Nat → List Byte
  | 0, _ => []
  | n + 1, v => BitVec.ofNat 8 v :: le n (v / 256)

/-- `n` bytes of a signed value in two's complement, the least significant first. -/
def leInt (n : Nat) (v : Int) : List Byte := le n (v.emod ((256 ^ n : Nat) : Int)).toNat

/-- A yes-or-no value. -/
def flagByte (b : Bool) : Byte := if b then 1#8 else 0#8

/-- A presence indication. -/
def present {α : Type} (o : Option α) : Byte := flagByte o.isSome

/-- A cell time, or 0 where it is absent. -/
def timeBytes (t : Option CellTime) : List Byte := le 6 (t.getD 0)

/-- The number whose bit `i` is entry `i` of the list. -/
def bitsToNat : List Bool → Nat
  | [] => 0
  | b :: bs => (if b then 1 else 0) + 2 * bitsToNat bs

/-- `n` reserved bytes. -/
def zeros (n : Nat) : List Byte := List.replicate n 0#8

/-! ## Single values of a request body -/

/-- A station or group number (R194). -/
def fourOf (v : Nat) : Option (Fin 4) := if h : v < 4 then some ⟨v, h⟩ else none

/-- A yes-or-no, on-or-off, set-or-clear or presence value (R194). -/
def boolOf (v : Nat) : Option Bool := if v = 0 then some false else if v = 1 then some true else none

/-- A set of stations or of link classes: bits 4 to 7 are reserved (R194). -/
def setOf (v : Nat) : Option (BitVec 4) := if v < 16 then some (BitVec.ofNat 4 v) else none

/-- The filtered-kind codes of section 10.8. -/
def kindOf (v : Nat) : Option FilterKind :=
  match v with
  | 0 => some .overspeed
  | 1 => some .encoder
  | 2 => some .link
  | 3 => some .mismatch
  | 4 => some .sync
  | 5 => some .tripIn
  | _ => none

/-- `v` where the test holds. -/
def check {α : Type} (ok : Bool) (v : α) : Option α := if ok then some v else none

/-- `lo ≤ v ≤ hi`. -/
def within (lo hi v : Nat) : Bool := decide (lo ≤ v) && decide (v ≤ hi)

/-- `lo ≤ v ≤ hi` for a signed value. -/
def withinInt (lo hi v : Int) : Bool := decide (lo ≤ v) && decide (v ≤ hi)

/-! ## Request bodies: none stands for BAD_VALUE -/

/-- Byte 0 a station, nothing else. -/
def stationBody (b : List Byte) : Option Station := fourOf (byteAt b 0)

/-- GROUP READ: byte 0 a group, nothing else. -/
def groupReadBody (b : List Byte) : Option GroupId := fourOf (byteAt b 0)

/-- Byte 0 a group, byte 1 reserved. -/
def groupBody (b : List Byte) : Option GroupId :=
  (fourOf (byteAt b 0)).bind fun g => check (byteAt b 1 == 0) g

/-- LINK ENABLE. -/
def linkEnableBody (b : List Byte) : Option (Station × Bool) :=
  (fourOf (byteAt b 0)).bind fun n => (boolOf (byteAt b 1)).map fun v => (n, v)

/-- CAL WRITE (R46, cause 2). -/
def calWriteBody (b : List Byte) : Option (Station × CalConstants) :=
  (fourOf (byteAt b 0)).bind fun n =>
    let k : CalConstants := { circumference := u32At b 2, mass := u16At b 6, lines := u16At b 8 }
    check (byteAt b 1 == 0 && within 1000000 6000000 k.circumference && within 50 3000 k.mass
      && within 256 65535 k.lines) (n, k)

/-- CAPABILITY READ (R54): offset and length. -/
def capabilityBody (b : List Byte) : Option (Nat × Nat) :=
  check (within 0 9 (byteAt b 0) && within 1 10 (byteAt b 1) && decide (byteAt b 0 + byteAt b 1 ≤ 10))
    (byteAt b 0, byteAt b 1)

/-- STATION SET (R56, cause 2): the station and the nine settings, link enable taken from `old`. -/
def stationSetBody (b : List Byte) : Option (Station × (Settings → Settings)) :=
  (fourOf (byteAt b 0)).bind fun n =>
  (boolOf (byteAt b 2)).bind fun inv =>
  (boolOf (byteAt b 3)).bind fun chk =>
  (setOf (byteAt b 5)).bind fun cls =>
  (boolOf (byteAt b 6)).bind fun auto =>
    let d := byteAt b 1
    check ((d == 1 || d == 2 || d == 4) && within 0 15 (byteAt b 4) && cls != 0#4 && byteAt b 7 == 0
        && within 1 75000 (u32At b 8) && within 100 20000 (u16At b 12) && within 50 5000 (u16At b 14))
      (n, fun old =>
        { decode := d, invert := inv, checkIndex := chk, tolerance := byteAt b 4,
          overspeedLimit := u32At b 8, forceLimit := u16At b 12, mismatchLimit := u16At b 14,
          classes := cls, autoRenegotiate := auto, linkEnable := old.linkEnable })

/-- The ranges of the five tuned items and the order of the windows (R59). -/
def Tuning.ok (t : Tuning) : Bool :=
  within 0 2000 t.kp && within 0 200 t.kd && within 0 10000 t.correctionLimit
    && within 1 2000000 t.lockPosition && within 1 2000000 t.tripPosition
    && within 1 20000 t.lockSpeed && within 1 20000 t.tripSpeed
    && decide (t.lockPosition < t.tripPosition) && decide (t.lockSpeed < t.tripSpeed)

/-- The first `n` of the four members and shares from bytes 4 and 8, each station in 0..3. -/
def memberEntries (b : List Byte) : Nat → Nat → Option (List Member)
  | _, 0 => some []
  | i, n + 1 =>
    (fourOf (byteAt b (4 + i))).bind fun s =>
      (memberEntries b (i + 1) n).map fun ms => { station := s, share := u16At b (8 + 2 * i) } :: ms

/-- The entries from number `i` up to 3 are 0 (R66: entries beyond the member count are reserved). -/
def restZero (b : List Byte) (i : Nat) : Bool :=
  (List.range 4).all fun j => decide (j < i) || (byteAt b (4 + j) == 0 && u16At b (8 + 2 * j) == 0)

/-- No station is named twice. -/
def distinct : List Member → Bool
  | [] => true
  | m :: ms => ms.all (fun x => x.station != m.station) && distinct ms

def groupKindOf (v : Nat) : Option GroupKind :=
  if v = 0 then some .linked else if v = 1 then some .averaged else none

/-- The tuned items from their offset in GROUP DEFINE and GROUP TUNE, whose order is the same. -/
def tuningAt (b : List Byte) (i : Nat) : Tuning :=
  { kp := u16At b i, kd := u16At b (i + 2), correctionLimit := u16At b (i + 4),
    lockPosition := u32At b (i + 6), tripPosition := u32At b (i + 10),
    lockSpeed := u16At b (i + 14), tripSpeed := u16At b (i + 16) }

/-- GROUP DEFINE (R66, cause 2). -/
def groupDefineBody (b : List Byte) : Option (GroupId × GroupDef) :=
  (fourOf (byteAt b 0)).bind fun g =>
  (groupKindOf (byteAt b 1)).bind fun kind =>
  (check (within 2 4 (byteAt b 2)) (byteAt b 2)).bind fun n =>
  (memberEntries b 0 n).bind fun ms =>
    let p := u16At b 16
    let t := tuningAt b 18
    check (byteAt b 3 == 0 && distinct ms && ms.all (fun m => decide (m.share ≤ 1000))
        && (ms.map (·.share)).sum == 1000 && restZero b n
        && (p == 250 || p == 500 || p == 1000 || p == 2000) && t.ok
        && within 0 2000 (u16At b 36) && within 100 10000 (u16At b 38))
      (g, { kind := kind, members := ms, period := p, tuning := t, ramp := u16At b 36,
            engageTimeout := u16At b 38 })

/-- GROUP TUNE (R68). -/
def groupTuneBody (b : List Byte) : Option (GroupId × Tuning) :=
  (fourOf (byteAt b 0)).bind fun g =>
    let t := tuningAt b 2
    check (byteAt b 1 == 0 && t.ok) (g, t)

/-- An optional field: present within its range, or absent with its bytes 0 (R111, cause 2). -/
def optionalField (flag raw lo hi : Nat) : Option (Option Nat) :=
  (boolOf flag).bind fun p =>
    if p then check (within lo hi raw) (some raw) else check (raw == 0) none

/-- SEGMENT QUEUE (R109, R111, cause 2): the segment, its arrival number still 0. An absent G or ramp time is 0. -/
def segmentBody (b : List Byte) : Option Segment :=
  (fourOf (byteAt b 0)).bind fun g =>
  (boolOf (byteAt b 1)).bind fun isMark =>
  (optionalField (byteAt b 2) (u32At b 16) 1 3600000).bind fun dur =>
  (boolOf (byteAt b 3)).bind fun gradePresent =>
  (optionalField (byteAt b 4) (u16At b 36) 0 5000).bind fun ramp =>
    let start := u64At b 8
    let a := u32At b 20
    let bb := i32At b 24
    let c := u32At b 28
    let m := u16At b 32
    let gr := i16At b 34
    check (byteAt b 5 == 0 && byteAt b 6 == 0 && byteAt b 7 == 0
        && (if isMark then decide (start < 2 ^ 32) else decide (start < 2 ^ 48))
        && within 0 100000 a && withinInt (-50000) 50000 bb && within 0 100000 c && within 450 5500 m
        && (if gradePresent then withinInt (-10000) 10000 gr else gr == 0))
      { group := g, basis := if isMark then .mark else .absolute, start := start, duration := dur,
        coeffs := { a := a, b := bb, c := c, mass := m, grade := gr }, ramp := ramp.getD 0,
        tag := u16At b 38, arrival := 0 }

/-- SEGMENT CANCEL: the tag. -/
def tagBody (b : List Byte) : Option Nat := check (u16At b 2 == 0) (u16At b 0)

/-- PERMIT TIME (R131). -/
def permitTimeBody (b : List Byte) : Option Nat :=
  check (within 100 60000 (u16At b 0) && u16At b 2 == 0) (u16At b 0)

/-- PERMIT GRANT and PERMIT RENEW. -/
def maskBody (b : List Byte) : Option (BitVec 4) :=
  (setOf (byteAt b 0)).bind fun m => check (byteAt b 1 == 0) m

/-- FILTER SET (R148). -/
def filterSetBody (b : List Byte) : Option (FilterKind × Nat) :=
  (kindOf (byteAt b 0)).bind fun k =>
    check (byteAt b 1 == 0 && within 0 30000 (u16At b 2)) (k, u16At b 2)

/-- SOURCE ENABLE (R149). -/
def sourceEnableBody (b : List Byte) : Option (FilterKind × Bool) :=
  (kindOf (byteAt b 0)).bind fun k =>
    (boolOf (byteAt b 1)).bind fun v => check (u16At b 2 == 0) (k, v)

/-- A flag set of section 10.8: bits 34 to 63 are reserved. -/
def flagSetBody (b : List Byte) : Option (BitVec 34) :=
  check (decide (u64At b 0 < 2 ^ 34)) (BitVec.ofNat 34 (u64At b 0))

/-- FORCE SET (R151). -/
def forceSetBody (b : List Byte) : Option (Bool × Bool) :=
  (boolOf (byteAt b 0)).bind fun t =>
    (boolOf (byteAt b 1)).bind fun a => check (u16At b 2 == 0) (t, a)

/-- EXCURSION FETCH (R168). -/
def fetchBody (b : List Byte) : Option Nat := check (within 0 8 (byteAt b 0) && byteAt b 1 == 0) (byteAt b 0)

/-- WINDOW OPEN (R171). -/
def windowOpenBody (b : List Byte) : Option (GroupId × Nat) :=
  (fourOf (byteAt b 0)).bind fun g =>
    check (byteAt b 1 == 0 && within 0 10000 (u16At b 2)) (g, u16At b 2)

/-- The operands of RING READ (R177). -/
structure RingQuery where
  group : GroupId
  start : Nat
  length : Nat
  wrap : Bool
  page : Nat
deriving DecidableEq, Repr

/-- RING READ (R177). -/
def ringReadBody (b : List Byte) : Option RingQuery :=
  (fourOf (byteAt b 0)).bind fun g =>
  (boolOf (byteAt b 3)).bind fun w =>
    let len := byteAt b 2
    check (within 0 31 (byteAt b 1) && (len == 8 || len == 16 || len == 32)
        && decide (8 * byteAt b 4 < len) && byteAt b 5 == 0)
      { group := g, start := byteAt b 1, length := len, wrap := w, page := byteAt b 4 }

/-! ## Codes of reply bodies -/

/-- Section 10.8: the coding of a group state. -/
def groupStateCode : GroupState → Nat
  | .undefined => 0
  | .free => 1
  | .engaging => 2
  | .locked => 3
  | .slipping => 4
  | .held => 5
  | .tripped => 6

/-- Section 10.8: the coding of a link state. -/
def linkStateCode : LinkState → Nat
  | .off => 0
  | .quiet => 1
  | .offer => 2
  | .acknowledge => 3
  | .confirm => 4
  | .up => 5
  | .lost => 6
  | .noMatch => 7

def linkClassCode : LinkClass → Nat
  | .p250 => 0
  | .p500 => 1
  | .p1000 => 2
  | .p2000 => 3

def scheduleStateCode : ScheduleState → Nat
  | .idle => 0
  | .active => 1
  | .dry => 2

def filterStateCode : FilterState → Nat
  | .clear => 0
  | .pending => 1
  | .latched => 2

def causeCode : CauseKind → Nat
  | .duration => 1
  | .held => 2
  | .tripped => 3
  | .timeout => 4
  | .dry => 5
  | .release => 6
  | .disband => 7

def excKindCode : ExcKind → Nat
  | .slip => 0
  | .engageTimeout => 1
  | .trip => 2

def excOutcomeCode : ExcOutcome → Nat
  | .recovered => 0
  | .tripped => 1
  | .held => 2
  | .released => 3
  | .timeout => 4

/-- A cause block, 10 bytes (section 10.8). -/
def causeBlock (c : Option Cause) : List Byte :=
  match c with
  | none => zeros 10
  | some c => le 1 (causeCode c.kind) ++ [present c.seq] ++ le 2 (c.seq.getD 0#16).toNat ++ le 6 c.at_

/-- A verdict block, 26 bytes (section 10.8). -/
def verdictBlock (v : Option Verdict) : List Byte :=
  match v with
  | none => zeros 26
  | some v => [flagByte v.invalid, flagByte v.byDisband] ++ le 2 v.limit ++ le 6 v.openedAt
      ++ le 6 v.closedAt ++ causeBlock v.cause

/-! ## Replies -/

/-- OK with a body. -/
def okReply (body : List Byte) : Reply := { status := .ok, body := body }

/-- A refusal with its status and an empty body (R184). -/
def refuse (st : Status) : Reply := { status := st, body := [] }

end Sys2Proof.Machine
end

