-- ==== Sys2Proof/Machine/Flags.lean ====
section
/-! DEFINITION. The protection monitor's flags: how a filtered flag takes a level, expires and is cleared; which flags are set; how TRIP_OUT and ATTN_OUT are formed (R142 to R160). -/

namespace Sys2Proof.Machine

/-- A saturating counter takes one more (00_scope.md, "saturating counter"). -/
def satInc (n : Nat) : Nat := if n < 65535 then n + 1 else 65535

def PerKind.get {α : Type} (t : PerKind α) (k : FilterKind) : α :=
  match k with
  | .overspeed => t.overspeed
  | .encoder => t.encoder
  | .link => t.link
  | .mismatch => t.mismatch
  | .sync => t.sync
  | .tripIn => t.tripIn

def PerKind.set {α : Type} (t : PerKind α) (k : FilterKind) (a : α) : PerKind α :=
  match k with
  | .overspeed => { t with overspeed := a }
  | .encoder => { t with encoder := a }
  | .link => { t with link := a }
  | .mismatch => { t with mismatch := a }
  | .sync => { t with sync := a }
  | .tripIn => { t with tripIn := a }

/-- In the order of the filtered-kind codes. -/
def PerKind.toList {α : Type} (t : PerKind α) : List α :=
  [t.overspeed, t.encoder, t.link, t.mismatch, t.sync, t.tripIn]

/-! ## The table of filtered flags -/

def FilteredFlags.get (f : FilteredFlags) (i : FilteredId) : Filtered :=
  match i with
  | .overspeed n => f.overspeed.get n
  | .encoder n => f.encoder.get n
  | .link n => f.link.get n
  | .mismatch n => f.mismatch.get n
  | .sync g => f.sync.get g
  | .tripIn => f.tripIn

/-- The table whose flag `i` is `h i` of the old one. -/
def FilteredFlags.mapIds (f : FilteredFlags) (h : FilteredId → Filtered → Filtered) : FilteredFlags :=
  { overspeed := Quad.ofFn fun n => h (.overspeed n) (f.overspeed.get n),
    encoder := Quad.ofFn fun n => h (.encoder n) (f.encoder.get n),
    link := Quad.ofFn fun n => h (.link n) (f.link.get n),
    mismatch := Quad.ofFn fun n => h (.mismatch n) (f.mismatch.get n),
    sync := Quad.ofFn fun g => h (.sync g) (f.sync.get g),
    tripIn := h .tripIn f.tripIn }

/-- The 21 filtered flags in the order of their numbers (section 10.8). -/
def filteredIds : List FilteredId :=
  allFour.map .overspeed ++ allFour.map .encoder ++ allFour.map .link ++ allFour.map .mismatch
    ++ allFour.map .sync ++ [.tripIn]

/-! ## One filtered flag -/

/-- The expiry of a filter timer of `time` units started at `now` (R144). -/
def filterDue (now time : Nat) : CellTime := now + time * 100

/-- A CLEAR flag whose condition appears at `now` (R145, R146): PENDING, or CLEAR and following at filter time 0. -/
def Filtered.appear (now time : Nat) (f : Filtered) : Filtered :=
  if time = 0 then f else { f with state := .pending, due := some (filterDue now time) }

/-- The level of a condition is handed to its flag (R143, R145, R146, R149): a level already held is no change, and a
disabled kind takes the level alone. -/
def Filtered.hand (enabled : Bool) (time now : Nat) (level : Bool) (f : Filtered) : Filtered :=
  if level = f.level then f
  else
    let g := { f with level := level }
    if enabled = false then g
    else match f.state, level with
      | .clear, true => g.appear now time
      | .pending, false => { g with state := .clear, due := none }
      | .clear, false | .pending, true | .latched, _ => g

/-- A filtered flag is set where it is LATCHED, or follows a present condition at filter time 0 (R142, R146). -/
def Filtered.isSet (enabled : Bool) (time : Nat) (f : Filtered) : Bool :=
  f.state == .latched || (enabled && time == 0 && f.level)

/-- Expiry of the filter timer (R145). -/
def Filtered.expire (f : Filtered) : Filtered := { f with state := .latched, due := none }

/-- The filter timer of a PENDING flag has reached its expiry. -/
def Filtered.expiryDue (now : Nat) (f : Filtered) : Bool :=
  f.state == .pending && (match f.due with | some t => decide (t ≤ now) | none => false)

/-- FLAGS CLEAR names the flag (R153). -/
def Filtered.clearNamed (time now : Nat) (f : Filtered) : Filtered :=
  match f.state with
  | .latched =>
    let g := { f with state := FilterState.clear, due := none }
    if f.level then g.appear now time else g
  | .clear | .pending => f

/-- FILTER SET changes the filter time of an enabled kind from `old` to `new` (R148). -/
def Filtered.retime (old new : Nat) (f : Filtered) : Filtered :=
  if old = new then f
  else if new = 0 then
    (match f.state with
      | .pending => { f with state := .clear, due := none }
      | .clear | .latched => f)
  else if old = 0 then
    (match f.state with
      | .clear => if f.level then { f with state := .latched } else f
      | .pending | .latched => f)
  else f

/-- SOURCE ENABLE off (R149). -/
def Filtered.disable (f : Filtered) : Filtered := { f with state := .clear, due := none }

/-- SOURCE ENABLE on, for a kind that was disabled (R149). -/
def Filtered.enable (time now : Nat) (f : Filtered) : Filtered := if f.level then f.appear now time else f

/-! ## The monitor -/

/-- The filtered flags of one kind changed by `h`. -/
def Monitor.mapKind (m : Monitor) (k : FilterKind) (h : Filtered → Filtered) : Monitor :=
  { m with flags := m.flags.mapIds fun i f => if i.kind = k then h f else f }

/-- One filtered flag changed by `h`. -/
def Monitor.mapFlag (m : Monitor) (i : FilteredId) (h : Filtered → Filtered) : Monitor :=
  { m with flags := m.flags.mapIds fun j f => if j = i then h f else f }

/-- Every filtered flag takes the level of its condition (R143). -/
def Monitor.handAll (now : Nat) (levels : FilteredId → Bool) (m : Monitor) : Monitor :=
  { m with flags := m.flags.mapIds fun i f =>
      f.hand (m.enabled.get i.kind) (m.times.get i.kind) now (levels i) }

/-- Whether a filtered flag is set. -/
def Monitor.filteredSet (m : Monitor) (i : FilteredId) : Bool :=
  (m.flags.get i).isSet (m.enabled.get i.kind) (m.times.get i.kind)

/-- Some trip-class flag is set (R155). -/
def Monitor.tripSet (m : Monitor) : Bool :=
  filteredIds.any m.filteredSet || m.estop || m.forceTrip

/-- The 34 flags, set or not, in the order of their numbers (section 10.8). -/
def Monitor.flagList (m : Monitor) : List Bool :=
  filteredIds.map m.filteredSet ++ [m.estop, m.forceTrip, m.alerts.powerOn, m.alerts.restart, m.alerts.permitExpired]
    ++ m.alerts.scheduleDry.toList ++ [m.alerts.calUnlocked, m.alerts.portCheck, m.forceAlert, m.alerts.logLost]

/-- The flags that are set, as a flag set. -/
def Monitor.flagWord (m : Monitor) : BitVec 34 := BitVec.ofNat 34 (bitsToNat m.flagList)

/-- Some set flag has its entry enabled in the notice mask (R159). -/
def Monitor.attnLevel (m : Monitor) : Bool := m.flagWord &&& m.noticeMask != 0#34

/-- TRIP_OUT and ATTN_OUT take the levels the flags give (R155, R159). -/
def Monitor.driveOutputs (m : Monitor) : Monitor := { m with tripOut := m.tripSet, attnOut := m.attnLevel }

/-! ## Latching alerts (R152) -/

def Monitor.latchPermitExpired (m : Monitor) : Monitor :=
  { m with alerts := { m.alerts with permitExpired := true } }

def Monitor.latchScheduleDry (m : Monitor) (g : GroupId) : Monitor :=
  { m with alerts := { m.alerts with scheduleDry := m.alerts.scheduleDry.set g true } }

def Monitor.latchCalUnlocked (m : Monitor) : Monitor :=
  { m with alerts := { m.alerts with calUnlocked := true } }

def Monitor.latchPortCheck (m : Monitor) : Monitor :=
  { m with alerts := { m.alerts with portCheck := true } }

def Monitor.latchLogLost (m : Monitor) : Monitor :=
  { m with alerts := { m.alerts with logLost := true } }

end Sys2Proof.Machine
end

