-- ==== Sys2Proof/Machine/Ops.lean ====
section
/-! DEFINITION. The operations the commands share: replacing one block of the state; finding a station's group; conditions; excursion records and window causes; entering HELD, FREE and TRIPPED; the trip event; the end of every event; the resets. -/

namespace Sys2Proof.Machine

/-! ## Replacing one block -/

def State.withClock (s : State) (t : CellTime) : State := { s with clock := t }
def State.withMark (s : State) (m : MarkCapture) : State := { s with mark := m }
def State.withUnit (s : State) (n : Station) (u : EncoderUnit) : State := { s with units := s.units.set n u }
def State.withLink (s : State) (n : Station) (l : Link) : State := { s with links := s.links.set n l }
def State.withCal (s : State) (c : CalStore) : State := { s with cal := c }
def State.withSettings (s : State) (n : Station) (t : Settings) : State :=
  { s with settings := s.settings.set n t }
def State.withGroup (s : State) (g : GroupId) (x : Group) : State := { s with groups := s.groups.set g x }
def State.withPosted (s : State) (p : Quad Int) : State := { s with posted := p }
def State.withRoad (s : State) (r : RoadQueue) : State := { s with road := r }
def State.withSched (s : State) (g : GroupId) (x : Schedule) : State := { s with scheds := s.scheds.set g x }
def State.withPermit (s : State) (p : Permit) : State := { s with permit := p }
def State.withMon (s : State) (m : Monitor) : State := { s with mon := m }
def State.withExc (s : State) (e : ExcursionStore) : State := { s with exc := e }
def State.withWindow (s : State) (g : GroupId) (w : Window) : State := { s with windows := s.windows.set g w }
def State.withRing (s : State) (g : GroupId) (r : Ring) : State := { s with rings := s.rings.set g r }
def State.withPort (s : State) (p : Port) : State := { s with port := p }
def State.withPending (s : State) (q : List Instr) : State := { s with pending := q }
def State.withFree (s : State) (k : Nat) : State := { s with freeCount := k }

/-! ## Numbers (R87) -/

/-- `v` held within `lo..hi`. -/
def hold (lo hi v : Int) : Int := if v < lo then lo else if hi < v then hi else v

/-- Held in the signed 32-bit range. -/
def hold32 (v : Int) : Int := hold (-2147483648) 2147483647 v

/-- Held in the signed 64-bit range. -/
def hold64 (v : Int) : Int := hold (-9223372036854775808) 9223372036854775807 v

/-- Held in 0..4,294,967,295. -/
def holdU32 (v : Nat) : Nat := if v ≤ 4294967295 then v else 4294967295

/-- A timer that runs has reached its expiry cell time. -/
def dueAt (now : CellTime) (t : Option CellTime) : Bool :=
  match t with
  | some d => decide (d ≤ now)
  | none => false

/-! ## Groups and their members (R62) -/

/-- The members of a group; none in UNDEFINED. -/
def Group.members (x : Group) : List Member :=
  match x.defn with
  | some d => d.members
  | none => []

/-- The station is in the group's member list. -/
def Group.hasMember (x : Group) (n : Station) : Bool := x.members.any fun m => m.station == n

/-- The defined group of which the station is a member, or none (R62). -/
def State.groupOf (s : State) (n : Station) : Option GroupId :=
  allFour.find? fun g => (s.groups.get g).state != .undefined && (s.groups.get g).hasMember n

/-- The station belongs to a group in a running state. -/
def State.inRunningGroup (s : State) (n : Station) : Bool :=
  match s.groupOf n with
  | some g => (s.groups.get g).state.running
  | none => false

/-- The station's permit is granted (R130). -/
def State.permitted (s : State) (n : Station) : Bool := s.permit.mask.getLsbD n.val

/-! ## Conditions (R14, R17, R38, R39, R104, R143) -/

/-- R14. -/
def EncoderUnit.encoderCondition (u : EncoderUnit) : Bool := u.indexBad || u.transitionBad

/-- R38: the LINK condition of a station. -/
def State.linkCondition (s : State) (n : Station) : Bool :=
  let l := s.links.get n
  l.state == .noMatch || (l.state == .up && l.fault) || (s.inRunningGroup n && l.state != .up)

/-- The level of the condition that feeds a filtered flag (R142). -/
def State.condition (s : State) (i : FilteredId) : Bool :=
  match i with
  | .overspeed n => (s.units.get n).overspeed
  | .encoder n => (s.units.get n).encoderCondition
  | .link n => s.linkCondition n
  | .mismatch n => (s.links.get n).mismatch
  | .sync g => (s.groups.get g).sync
  | .tripIn => s.mon.tripIn

/-- Every filtered flag takes the level its block hands it (R143). -/
def handConditions (s : State) : State := s.withMon (s.mon.handAll s.clock s.condition)

/-! ## Excursions (R163 to R167) -/

/-- R163: the tag of the group's active segment, in ACTIVE and DRY. -/
def Schedule.activeTag (x : Schedule) : Option Nat :=
  match x.state with
  | .idle => none
  | .active | .dry => x.active.map (·.tag)

/-- A closed record is handed to the log; a full log drops it, counts it and latches LOG_LOST (R167). -/
def logRecord (r : ExcRecord) (s : State) : State :=
  if s.exc.log.length < Config.logCapacity then s.withExc { s.exc with log := s.exc.log ++ [r] }
  else (s.withExc { s.exc with lost := satInc s.exc.lost }).withMon s.mon.latchLogLost

/-- A SLIP excursion opens at a group (R102, R164). -/
def openExcursion (g : GroupId) (peakPosition peakSpeed : Nat) (s : State) : State :=
  let x := s.groups.get g
  let o : OpenSlip := { seq := s.exc.counter, start := s.clock, peakPosition := peakPosition,
                        peakSpeed := peakSpeed, tag := (s.scheds.get g).activeTag }
  (s.withGroup g { x with openSlip := some o }).withExc { s.exc with counter := s.exc.counter + 1#16 }

/-- The record an open SLIP becomes at its closing (R165). -/
def OpenSlip.close (o : OpenSlip) (g : GroupId) (now : CellTime) (oc : ExcOutcome) : ExcRecord :=
  { seq := o.seq, group := g, kind := .slip, start := o.start, stop := now, peakPosition := o.peakPosition,
    peakSpeed := o.peakSpeed, outcome := oc, tag := o.tag }

/-- The excursion in the open slot, if there is one, closes and goes to the log; the slot empties (R165). -/
def closeExcursion (g : GroupId) (oc : ExcOutcome) (s : State) : State × Option ExcRecord :=
  match (s.groups.get g).openSlip with
  | none => (s, none)
  | some o =>
    let r := o.close g s.clock oc
    (logRecord r (s.withGroup g { s.groups.get g with openSlip := none }), some r)

/-- A record written already closed, its peaks 0 (R166). -/
def writeClosed (g : GroupId) (k : ExcKind) (start : CellTime) (oc : ExcOutcome) (s : State) :
    State × Option ExcRecord :=
  let r : ExcRecord := { seq := s.exc.counter, group := g, kind := k, start := start, stop := s.clock,
                         peakPosition := 0, peakSpeed := 0, outcome := oc, tag := (s.scheds.get g).activeTag }
  (logRecord r (s.withExc { s.exc with counter := s.exc.counter + 1#16 }), some r)

/-! ## Window causes (R172) -/

/-- The cause kind a closed record gives against a duration limit in ms. -/
def ExcRecord.causeKind (r : ExcRecord) (limit : Nat) : Option CauseKind :=
  if limit * 1000 < r.stop - r.start then some .duration
  else match r.outcome with
    | .held => some .held
    | .tripped => some .tripped
    | .timeout => some .timeout
    | .recovered | .released => none

/-- The first cause of one event: the cause of its record where it gives one, since that kind stands highest in the
table of R172, else the event's own kind. -/
def firstCause (limit : Nat) (now : CellTime) (r : Option ExcRecord) (own : Option CauseKind) : Option Cause :=
  match r.bind (fun r => (r.causeKind limit).map fun k => ({ kind := k, at_ := now, seq := some r.seq } : Cause)) with
  | some c => some c
  | none => own.map fun k => { kind := k, at_ := now, seq := none }

/-- The causes of one event reach the group's window (R172). -/
def windowCause (g : GroupId) (r : Option ExcRecord) (own : Option CauseKind) (s : State) : State :=
  let w := s.windows.get g
  if w.state = .openValid then
    match firstCause w.limit s.clock r own with
    | some c => s.withWindow g { w with state := .openInvalid, cause := some c }
    | none => s
  else s

/-! ## Entering HELD, FREE and TRIPPED -/

/-- 0 is posted for every station of a list (R64). -/
def postZeroTo (ms : List Member) (p : Quad Int) : Quad Int := ms.foldl (fun q m => q.set m.station 0) p

/-- 0 is posted for every member of the group (R64). -/
def postZero (g : GroupId) (s : State) : State := s.withPosted (postZeroTo (s.groups.get g).members s.posted)

/-- A HELD claim reaches a group (R76, R77): it sends a driving group to HELD and leaves every other one. -/
def claimHeld (g : GroupId) (s : State) : State :=
  if (s.groups.get g).state.driving then
    let (s1, r) := closeExcursion g .held s
    let s2 := postZero g s1
    let s3 := s2.withGroup g { s2.groups.get g with
      state := .held, engageDue := none, rampProgress := 0, confirm := 0 }
    windowCause g r (some .held) s3
  else s

/-- A HELD claim for a station is made on its group (R76). -/
def claimStation (n : Station) (s : State) : State :=
  match s.groupOf n with
  | some g => claimHeld g s
  | none => s

/-- One HELD claim on each group of which a removed station is a member (R134). The rules give the claims of one event no
order among the groups; that they are made in the order G0, G1, G2, G3, which the log order of records closed HELD shows
(R167), is the model's choice (log 6). -/
def claimRemoved (removed : BitVec 4) (s : State) : State :=
  allFour.foldl (fun t g =>
    if (t.groups.get g).state != .undefined
        && (t.groups.get g).members.any (fun m => removed.getLsbD m.station.val)
    then claimHeld g t else t) s

/-- A group enters FREE (R63, R64, R65): its timers stop, 0 is posted and SYNC is absent. -/
def enterFree (g : GroupId) (s : State) : State :=
  let s1 := postZero g s
  s1.withGroup g { s1.groups.get g with state := .free, periodDue := none, engageDue := none, sync := false }

/-- The record of the trip event for a group (R80, R165, R166). -/
def tripRecord (g : GroupId) (s : State) : State × Option ExcRecord :=
  match (s.groups.get g).openSlip with
  | some _ => closeExcursion g .tripped s
  | none =>
    match (s.groups.get g).state with
    | .locked | .engaging => writeClosed g .trip s.clock .tripped s
    | .undefined | .free | .slipping | .held | .tripped => (s, none)

/-- The trip event reaches one group (R80). -/
def tripGroup (g : GroupId) (s : State) : State :=
  if (s.groups.get g).state.running then
    let (s1, r) := tripRecord g s
    let s2 := postZero g s1
    let s3 := s2.withGroup g { s2.groups.get g with
      state := .tripped, periodDue := none, engageDue := none, sync := false }
    let s4 := s3.withRing g { s3.rings.get g with frozen := true }
    windowCause g r (some .tripped) s4
  else s

/-- The trip event (R156): counted, the permits withdrawn (R137), every running group tripped in the order G0..G3. -/
def tripEvent (s : State) : State :=
  let s1 := s.withMon { s.mon with tripCount := satInc s.mon.tripCount }
  let s2 := s1.withPermit { s1.permit with mask := 0#4, due := none }
  allFour.foldl (fun t g => tripGroup g t) s2

/-! ## The end of every event -/

/-- TRIP_OUT and ATTN_OUT take the levels the flags leave (R155, R159). -/
def driveLines (s : State) : State := s.withMon s.mon.driveOutputs

/-- What follows the effect of an event inside that event (R143, R155, R156, R159): the conditions are handed; where
TRIP_OUT passes to asserted the trip event follows, and the conditions it ends are handed; TRIP_OUT and ATTN_OUT take
their levels. -/
def settle (s : State) : State :=
  let s1 := handConditions s
  if s1.mon.tripSet && !s1.mon.tripOut then driveLines (handConditions (tripEvent s1)) else driveLines s1

/-- The answer of an event that leaves `s` before its end. -/
def done (s : State) : Answer State := .next (settle s)

/-! ## Resets (R192, R162) -/

/-- The levels of the lines as the part last took them. -/
def State.lines (s : State) : LineLevels :=
  { encA := Quad.ofFn fun n => (s.units.get n).lineA, encB := Quad.ofFn fun n => (s.units.get n).lineB,
    tripIn := s.mon.tripIn, estopIn := s.mon.estopIn }

/-- The end of a cold reset, before the levels of that moment are handed (R1, R162). -/
def coldReset (lines : LineLevels) (s : State) : State :=
  State.base s.cal.records lines { Alerts.none_ with powerOn := true } s.pending s.freeCount

/-- The end of a port reset, before the levels of that moment are handed (R192). -/
def portReset (s : State) : State :=
  State.base s.cal.records s.lines { Alerts.none_ with restart := true } s.pending s.freeCount

end Sys2Proof.Machine
end

