-- ==== Sys2Proof/Machine/Encoder.lean ====
section
/-! DEFINITION. The encoder capture units (section 1.3): transitions, counted edges, index events, the estimation interval, setting changes and the two reads. -/

namespace Sys2Proof.Machine

/-! ## Decoding (R7, R8) -/

/-- The place of a pair of levels in the forward cycle 00, 10, 11, 01 (R7). -/
def cyclePlace (a b : Bool) : Nat :=
  match a, b with
  | false, false => 0
  | true, false => 1
  | true, true => 2
  | false, true => 3

/-- A valid transition goes forward where it moves one place along the cycle (R7). -/
def isForward (a b a' b' : Bool) : Bool := (cyclePlace a b + 1) % 4 == cyclePlace a' b'

/-- Whether the decode factor counts a valid transition (R8). -/
def counts (factor : Nat) (a a' b' : Bool) : Bool :=
  if factor = 4 then true else if factor = 2 then a != a' else a != a' && !b'

/-- The count divisor of a station (section 1.3). -/
def State.divisor (s : State) (n : Station) : Nat := (s.cal.records.get n).lines * (s.settings.get n).decode

/-! ## A counted edge (R9, R10, R11, R15, R16) -/

/-- The exact travel and the remainder after a count `k` of circumference `c` and divisor `d` (R10). -/
def convertCount (c d : Nat) (k travel : Int) (remainder : Nat) : Int × Nat :=
  let sum := (remainder : Int) + k * c
  (travel + Int.fdiv sum d, (Int.fmod sum d).toNat)

/-- A travel lies within the signed 64-bit range. -/
def fits64 (v : Int) : Bool := decide (-9223372036854775808 ≤ v) && decide (v ≤ 9223372036854775807)

/-- The valid-count run and transition-bad after a counted edge (R11). -/
def stepRun (bad : Bool) (run : Nat) : Bool × Nat :=
  if bad then (if run + 1 < Config.validRunFull then (true, run + 1) else (false, Config.validRunFull))
  else (false, run)

/-- What a count does to the unit but for travel (R8, R9, R11, R15, R16). -/
def EncoderUnit.countEdge (u : EncoderUnit) (up : Bool) (fine : Nat) : EncoderUnit :=
  let cnt := if up then u.count + 1#32 else u.count - 1#32
  let e : Edge := { fine := fine, count := cnt }
  let r := stepRun u.transitionBad u.validRun
  { u with
    count := cnt, transitionBad := r.1, validRun := r.2, lastCounted := some e,
    windowStart := (match u.windowStart with | some w => some w | none => some e),
    crawl := false }

/-- A counted edge of a station (R8): the count, and travel where the record is valid (R10). A travel outside the
signed 64-bit range is a free value (log 7). -/
def countEdge (n : Station) (up : Bool) (fine : Nat) (s : State) : State :=
  let u := (s.units.get n).countEdge up fine
  let rec_ := s.cal.records.get n
  if rec_.valid then
    let t := convertCount rec_.circumference (s.divisor n) (if up then 1 else -1) u.travel u.remainder
    if fits64 t.1 then s.withUnit n { u with travel := t.1, remainder := t.2 }
    else (s.withUnit n { u with travel := (Config.freeTravel s.freeCount).toInt, remainder := t.2 }).withFree
      (s.freeCount + 1)
  else s.withUnit n u

/-- An illegal transition (R11). -/
def EncoderUnit.illegal (u : EncoderUnit) : EncoderUnit :=
  { u with illegalCount := satInc u.illegalCount, transitionBad := true, validRun := 0 }

/-- A sample of a station's lines at a fine timestamp (R7). -/
def takeSample (n : Station) (a b : Bool) (fine : Nat) (s : State) : State :=
  let u := s.units.get n
  let t := s.settings.get n
  if a = u.lineA ∧ b = u.lineB then s
  else
    let s1 := s.withUnit n { u with lineA := a, lineB := b }
    if a ≠ u.lineA ∧ b ≠ u.lineB then s1.withUnit n (s1.units.get n).illegal
    else if counts t.decode u.lineA a b then
      countEdge n (isForward u.lineA u.lineB a b != t.invert) fine s1
    else s1

/-- ENCODER_TRANSITION (R7): a sample whose fine timestamp is 32 × cell time + `frac` (R1, log 29). -/
def execEncoderTransition (n : Station) (a b : Bool) (frac : Fin 32) (s : State) : Answer State :=
  done (takeSample n a b (s.clock * 32 + frac.val) s)

/-! ## Index events (R12, R13) -/

/-- A difference of position counts (R9). -/
def countDiff (later earlier : BitVec 32) : Int := (later - earlier).toInt

/-- The index interval `d` checks good against the divisor and the tolerance (R13). -/
def indexGood (d : Int) (divisor tolerance : Nat) : Bool :=
  decide ((d - divisor).natAbs ≤ tolerance) || decide ((d + divisor).natAbs ≤ tolerance)
    || decide (d.natAbs ≤ tolerance)

/-- The unit after an index event (R12, R13). -/
def EncoderUnit.indexEvent (u : EncoderUnit) (check valid : Bool) (divisor tolerance : Nat) : EncoderUnit :=
  let v := { u with prevIndex := u.lastIndex, lastIndex := some u.count }
  if check && valid then
    if u.indexArmed then
      match u.lastIndex with
      | some p =>
        if indexGood (countDiff u.count p) divisor tolerance then { v with indexBad := false }
        else { v with indexBad := true, indexErrors := satInc u.indexErrors }
      | none => v
    else { v with indexArmed := true }
  else v

/-- INDEX_EVENT (R12). -/
def execIndexEvent (n : Station) (s : State) : Answer State :=
  let t := s.settings.get n
  done (s.withUnit n ((s.units.get n).indexEvent t.checkIndex (s.cal.records.get n).valid (s.divisor n) t.tolerance))

/-! ## The estimation interval (R15, R16, R17) -/

/-- The speed estimate from the window start edge to the last counted edge (R15). -/
def speedEstimate (circumference divisor : Nat) (valid : Bool) (w e : Edge) : Int :=
  if valid then
    hold32 (Int.tdiv (countDiff e.count w.count * circumference * 32000) ((divisor * (e.fine - w.fine) : Nat) : Int))
  else 0

/-- No estimate: 0, crawl set, the window discarded (R16). -/
def EncoderUnit.toCrawl (u : EncoderUnit) : EncoderUnit := { u with speed := 0, crawl := true, windowStart := none }

/-- The estimate at an expiry at cell time `now` (R15, R16). -/
def EncoderUnit.estimate (u : EncoderUnit) (circumference divisor : Nat) (valid : Bool) (now : CellTime) :
    EncoderUnit :=
  match u.windowStart with
  | none => if u.crawl then u else u.toCrawl
  | some w =>
    match u.lastCounted with
    | some e =>
      if w.fine < e.fine then
        { u with speed := speedEstimate circumference divisor valid w e, windowStart := some e }
      else if w.fine + Config.crawlAgeFine ≤ now * 32 then u.toCrawl else u
    | none => if w.fine + Config.crawlAgeFine ≤ now * 32 then u.toCrawl else u

/-- An expiry of the estimation interval at a unit (R15, R16, R17). -/
def estimationExpiry (n : Station) (s : State) : State :=
  let rec_ := s.cal.records.get n
  let u := (s.units.get n).estimate rec_.circumference (s.divisor n) rec_.valid s.clock
  s.withUnit n { u with
    overspeed := decide ((s.settings.get n).overspeedLimit < u.speed.natAbs),
    estimateDue := s.clock + Config.estimationInterval }

/-- ESTIMATION_INTERVAL_EXPIRY (R15): taken where the timer has reached its expiry (log 3). -/
def execEstimationIntervalExpiry (n : Station) (s : State) : Answer State :=
  done (if (s.units.get n).estimateDue ≤ s.clock then estimationExpiry n s else s)

/-! ## Setting changes and calibration completions (R18) -/

/-- The three effects of R18. -/
def EncoderUnit.reconfigure (u : EncoderUnit) : EncoderUnit :=
  { u with remainder := 0, lastIndex := none, prevIndex := none, indexArmed := false, indexBad := false,
           windowStart := none }

/-! ## Requests (R20, R21) -/

/-- ENCODER READ's reply body (section 10.8). -/
def encoderReadBody (u : EncoderUnit) (now : CellTime) : List Byte :=
  le 4 u.count.toNat ++ leInt 8 u.travel ++ leInt 4 u.speed
    ++ le 4 (u.lastIndex.getD 0#32).toNat ++ le 4 (u.prevIndex.getD 0#32).toNat
    ++ [flagByte u.crawl, present u.lastIndex, present u.prevIndex, flagByte u.indexBad,
        flagByte u.transitionBad, flagByte u.overspeed, flagByte u.encoderCondition, 0#8]
    ++ le 6 now

/-- ENCODER READ (R20). -/
def reqEncoderRead (body : List Byte) (s : State) : State × Reply :=
  match stationBody body with
  | none => (s, refuse .badValue)
  | some n => (s, okReply (encoderReadBody (s.units.get n) s.clock))

/-- ENCODER COUNTERS (R21). -/
def reqEncoderCounters (body : List Byte) (s : State) : State × Reply :=
  match stationBody body with
  | none => (s, refuse .badValue)
  | some n =>
    let u := s.units.get n
    (s.withUnit n { u with illegalCount := 0, indexErrors := 0 },
      okReply (le 2 u.illegalCount ++ le 2 u.indexErrors))

end Sys2Proof.Machine
end

