-- ==== Sys2Proof/Machine/Links.lean ====
section
/-! DEFINITION. The drive links (chapter 2): negotiation, the exchange in UP, leaving UP, and the four requests. -/

namespace Sys2Proof.Machine

/-! ## Entries to states -/

/-- Every timer stopped. -/
def Link.stopTimers (l : Link) : Link :=
  { l with quietDue := none, offerDue := none, negotiationDue := none, updateDue := none }

/-- The negotiation forgotten: runs and counts 0; recorded offer, mode and ceiling none (R24, R25, R26). -/
def Link.forget (l : Link) : Link :=
  { l with offerContent := none, offerRun := 0, plainRun := 0, markedRun := 0, confirmCount := 0,
           recorded := none, mode := none, ceiling := none }

/-- Entry to QUIET (R26). -/
def Link.toQuiet (now : CellTime) (l : Link) : Link :=
  { l.stopTimers.forget with state := .quiet, quietDue := some (now + Config.quietTime) }

/-- LINK ENABLE off (R24). -/
def Link.toOff (l : Link) : Link := { l.stopTimers.forget with state := .off }

/-- Entry to NOMATCH (R30): the recorded drive offer stays. -/
def Link.toNoMatch (l : Link) : Link := { l.stopTimers with state := .noMatch }

/-- What a link leaving UP does to itself (R38). -/
def Link.leaveUp (l : Link) : Link :=
  { l with updateDue := none, good := false, ready := false, fault := false, mismatch := false,
           force := none, driveSpeed := none, lastSent := none, outstanding := none }

/-- R38 where the link is UP, nothing where it is not. -/
def Link.leaveIfUp (l : Link) : Link := if l.state = .up then l.leaveUp else l

/-- Entry to UP with a resolved mode and ceiling (R32). -/
def Link.toUp (now : CellTime) (mode : LinkMode) (ceiling : Nat) (l : Link) : Link :=
  { l with state := .up, quietDue := none, offerDue := none, negotiationDue := none,
           updateDue := some (now + mode.cls.period), mode := some mode, ceiling := some ceiling,
           seq := 0#4, missingRun := 0, outstanding := none, ready := false, fault := false,
           force := none, driveSpeed := none, lastSent := none, mismatch := false }

/-! ## Offers (R23, R27 to R31) -/

/-- The force ceiling of the part's offer word, in units of 100 N (R23). -/
def Settings.offeredCeiling (t : Settings) : Nat := t.forceLimit / 100

/-- The part's offer word (R23). -/
def Settings.offerWord (t : Settings) (mark : Bool) : OfferWord :=
  { content := { classes := t.classes, feedback := true, ceiling := BitVec.ofNat 8 t.offeredCeiling,
                 identity := 0#8 }, mark := mark }

/-- The link sends a frame on DLK_TX (log 17). -/
def Link.send (now : CellTime) (f : DlkTxFrame) (l : Link) : Link := { l with sent := some { at_ := now, frame := f } }

/-- The shortest class of a set (R30's list). -/
def firstClass (set : BitVec 4) : Option LinkClass :=
  if set.getLsbD 0 then some .p250
  else if set.getLsbD 1 then some .p500
  else if set.getLsbD 2 then some .p1000
  else if set.getLsbD 3 then some .p2000
  else none

/-- Resolution against the recorded drive offer (R30). -/
def Link.resolve (now : CellTime) (t : Settings) (l : Link) : Link :=
  match l.recorded with
  | none => l.toNoMatch
  | some r =>
    match firstClass (t.classes &&& r.content.classes) with
    | none => l.toNoMatch
    | some c => l.toUp now { cls := c, feedback := r.content.feedback } (min (r.content.ceiling.toNat * 100) t.forceLimit)

/-- Resolution by plain detection (R28). -/
def Link.resolvePlain (now : CellTime) (t : Settings) (l : Link) : Link :=
  if t.classes.getLsbD 2 then
    { l with recorded := none }.toUp now { cls := .p1000, feedback := false } t.forceLimit
  else l.toNoMatch

/-- A drive offer received in OFFER (R27). -/
def Link.offerInOffer (w : OfferWord) (l : Link) : Link :=
  let n := if l.offerRun = 0 ∨ l.offerContent ≠ some w.content then 1 else l.offerRun + 1
  let m := { l with offerContent := some w.content, offerRun := n, plainRun := 0 }
  if n = 3 then { m with state := .acknowledge, markedRun := 0,
                         recorded := some { content := w.content, mark := w.mark } }
  else m

/-- A status frame received in OFFER (R28). -/
def Link.statusInOffer (now : CellTime) (t : Settings) (l : Link) : Link :=
  let m := { l with plainRun := l.plainRun + 1, offerRun := 0, offerContent := none }
  if m.plainRun = 3 then m.resolvePlain now t else m

/-- The return to OFFER of R31, with the changed offer or none. -/
def Link.backToOffer (c : Option OfferContent) (l : Link) : Link :=
  { l with state := .offer, recorded := none, markedRun := 0, confirmCount := 0, plainRun := 0,
           offerContent := c, offerRun := if c.isSome then 1 else 0 }

/-- A drive offer received in ACKNOWLEDGE (R29, R31). -/
def Link.offerInAcknowledge (w : OfferWord) (l : Link) : Link :=
  if l.recorded.map (·.content) = some w.content then
    let m := { l with recorded := some { content := w.content, mark := w.mark },
                      markedRun := if w.mark then l.markedRun + 1 else 0 }
    if m.markedRun = 3 then { m with state := .confirm, confirmCount := 0 } else m
  else l.backToOffer (some w.content)

/-- A drive offer received in CONFIRM (R29, R31). -/
def Link.offerInConfirm (w : OfferWord) (l : Link) : Link :=
  if l.recorded.map (·.content) = some w.content ∧ w.mark = true then
    { l with recorded := some { content := w.content, mark := true } }
  else l.backToOffer (some w.content)

/-- An expiry of the offer timer (R27, R29, R30). -/
def Link.offerTick (now : CellTime) (t : Settings) (l : Link) : Link :=
  match l.state with
  | .offer => { l with offerDue := some (now + Config.offerPeriod) }.send now (.offer (t.offerWord false))
  | .acknowledge => { l with offerDue := some (now + Config.offerPeriod) }.send now (.offer (t.offerWord true))
  | .confirm =>
    let m := { l with offerDue := some (now + Config.offerPeriod), confirmCount := l.confirmCount + 1 }.send now
      (.offer (t.offerWord true))
    if m.confirmCount = 6 then m.resolve now t else m
  | .off | .quiet | .up | .lost | .noMatch => l

/-- The expiry of the quiet timer (R26): OFFER, with the first offer sent. -/
def Link.quietEnd (now : CellTime) (t : Settings) (l : Link) : Link :=
  { l with state := .offer, quietDue := none, negotiationDue := some (now + Config.negotiationTime),
           offerDue := some (now + Config.offerPeriod) }.send now (.offer (t.offerWord false))

/-! ## Exchange in UP (R34 to R39) -/

/-- The force mismatch condition as it stands at an evaluation (R39). -/
def Link.mismatchNow (l : Link) (limit : Nat) : Bool :=
  l.state == .up &&
    (match l.lastSent, l.force with
      | some d, some f => d.demand != 0 && decide (limit < (f - d.demand).natAbs)
      | _, _ => false)

/-- A cycle frame is sent (R34, R35, R39). -/
def Link.sendCycle (now : CellTime) (demand : Int) (enable : Bool) (limit : Nat) (l : Link) : Link :=
  let q := if l.outstanding.isSome then l.seq + 1#4 else l.seq
  let m := { l with seq := q, outstanding := some { seq := q, demand := demand, judged := false },
                    lastSent := some { demand := demand, enable := enable } }.send now (.cycle demand enable q)
  { m with mismatch := m.mismatchNow limit }

/-- The outstanding frame whose reply has not been judged. -/
def Link.awaiting (l : Link) : Option Outstanding :=
  match l.outstanding with
  | some o => if o.judged then none else some o
  | none => none

/-- The reply to a cycle frame has been judged (R36). -/
def Outstanding.judge (o : Outstanding) : Outstanding := { o with judged := true }

/-- A missing reply is counted (R36). -/
def Link.missing (l : Link) : Link :=
  { l with missedReplies := satInc l.missedReplies, missingRun := l.missingRun + 1,
           outstanding := l.outstanding.map Outstanding.judge }

/-- A third missing reply loses the link (R36, R38). -/
def Link.lose (now : CellTime) (auto : Bool) (l : Link) : Link :=
  if auto then l.leaveUp.toQuiet now else { l.leaveUp.stopTimers with state := .lost }

/-- The fields of an answered status frame are taken (R37, R39). -/
def Link.answer (f : StatusFrame) (limit : Nat) (l : Link) : Link :=
  let m := { l with
    missingRun := 0, outstanding := l.outstanding.map Outstanding.judge,
    force := some f.force.toInt,
    driveSpeed := (match l.mode with
      | some m => if m.feedback then some f.driveSpeed.toInt else none
      | none => none),
    ready := f.ready, fault := f.fault }
  { m with mismatch := m.mismatchNow limit }

/-- A reply of a station's link is judged missing (R36): a third one loses the link, which claims the station's group
(R38, R76). -/
def judgeMissing (n : Station) (s : State) : State :=
  let l := (s.links.get n).missing
  if l.missingRun = 3 then
    claimStation n (s.withLink n (l.lose s.clock (s.settings.get n).autoRenegotiate))
  else s.withLink n l

/-- A status frame received in UP with a good check (R36, R37). -/
def statusInUp (n : Station) (f : StatusFrame) (s : State) : State :=
  let l := s.links.get n
  match l.awaiting with
  | none => s
  | some o =>
    if f.echo = o.seq then
      let s1 := s.withLink n (l.answer f (s.settings.get n).mismatchLimit)
      if f.ready then s1 else claimStation n s1
    else judgeMissing n s

/-- Any other frame that judges the reply in UP (R36). -/
def spoiledInUp (n : Station) (s : State) : State :=
  match (s.links.get n).awaiting with
  | none => s
  | some _ => judgeMissing n s

/-- A frame with a bad check is counted (R22). -/
def Link.countCheckError (l : Link) : Link := { l with checkErrors := satInc l.checkErrors }

/-- A frame arrives on DLK_RX (R22). -/
def receiveDlk (n : Station) (f : DlkFrame) (s : State) : State :=
  let l := s.links.get n
  let t := s.settings.get n
  match l.state, f with
  | .off, _ | .quiet, _ | .lost, _ | .noMatch, _ => s
  | .up, .badCheck => spoiledInUp n (s.withLink n l.countCheckError)
  | .up, .offer _ => spoiledInUp n s
  | .up, .status f => statusInUp n f s
  | .offer, .badCheck | .acknowledge, .badCheck | .confirm, .badCheck => s.withLink n l.countCheckError
  | .offer, .offer w => s.withLink n (l.offerInOffer w)
  | .offer, .status _ => s.withLink n (l.statusInOffer s.clock t)
  | .acknowledge, .offer w => s.withLink n (l.offerInAcknowledge w)
  | .confirm, .offer w => s.withLink n (l.offerInConfirm w)
  | .acknowledge, .status _ | .confirm, .status _ => s.withLink n (l.backToOffer none)

/-- The gated force demand and enable flag of a station (R35). -/
def State.gated (s : State) (n : Station) : Int × Bool :=
  if s.permitted n && !s.mon.tripOut then (s.posted.get n, true) else (0, false)

/-- A cycle frame is sent for a station and the update timer reloads (R34). -/
def sendFrame (n : Station) (s : State) : State :=
  let l := s.links.get n
  let d := s.gated n
  let period := match l.mode with | some m => m.cls.period | none => 0
  s.withLink n ({ l with updateDue := some (s.clock + period) }.sendCycle s.clock d.1 d.2
    (s.settings.get n).mismatchLimit)

/-- An expiry of the update timer in UP (R34): the outstanding reply is judged, and the next frame is sent unless that
judgment loses the link. -/
def updateExpiry (n : Station) (s : State) : State :=
  match (s.links.get n).awaiting with
  | none => sendFrame n s
  | some _ =>
    let s1 := judgeMissing n s
    if (s1.links.get n).state = .up then sendFrame n s1 else s1

/-! ## The commands of the links -/

/-- DLK_FRAME_RECEIVED (R22). -/
def execDlkFrameReceived (n : Station) (f : DlkFrame) (s : State) : Answer State := done (receiveDlk n f s)

/-- QUIET_TIMER_EXPIRY (R26). -/
def execQuietTimerExpiry (n : Station) (s : State) : Answer State :=
  let l := s.links.get n
  done (if l.state = .quiet ∧ dueAt s.clock l.quietDue then s.withLink n (l.quietEnd s.clock (s.settings.get n)) else s)

/-- OFFER_TIMER_EXPIRY (R29). -/
def execOfferTimerExpiry (n : Station) (s : State) : Answer State :=
  let l := s.links.get n
  done (if dueAt s.clock l.offerDue then s.withLink n (l.offerTick s.clock (s.settings.get n)) else s)

/-- The negotiating states in which the negotiation timer runs (R33). -/
def LinkState.settling : LinkState → Bool
  | .offer | .acknowledge | .confirm => true
  | .off | .quiet | .up | .lost | .noMatch => false

/-- NEGOTIATION_TIMER_EXPIRY (R33). -/
def execNegotiationTimerExpiry (n : Station) (s : State) : Answer State :=
  let l := s.links.get n
  done (if l.state.settling ∧ dueAt s.clock l.negotiationDue then
      s.withLink n ({ l with negotiationFailures := satInc l.negotiationFailures }.toQuiet s.clock)
    else s)

/-- UPDATE_TIMER_EXPIRY (R34). -/
def execUpdateTimerExpiry (n : Station) (s : State) : Answer State :=
  let l := s.links.get n
  done (if l.state = .up ∧ dueAt s.clock l.updateDue then updateExpiry n s else s)

/-! ## Requests -/

/-- A link is taken to a state it enters from any other, leaving UP where it was UP (R24, R25, R38). -/
def moveLink (n : Station) (h : Link → Link) (s : State) : State :=
  let l := s.links.get n
  let s1 := s.withLink n (h l.leaveIfUp)
  if l.state = .up then claimStation n s1 else s1

/-- LINK ENABLE (R24). -/
def reqLinkEnable (body : List Byte) (s : State) : State × Reply :=
  match linkEnableBody body with
  | none => (s, refuse .badValue)
  | some (n, v) =>
    let s1 := s.withSettings n { s.settings.get n with linkEnable := v }
    if v then
      (if (s.links.get n).state = .off then s1.withLink n ((s.links.get n).toQuiet s.clock) else s1, okReply [])
    else (moveLink n Link.toOff s1, okReply [])

/-- LINK RESTART (R25). -/
def reqLinkRestart (body : List Byte) (s : State) : State × Reply :=
  match stationBody body with
  | none => (s, refuse .badValue)
  | some n =>
    if (s.links.get n).state = .off then (s, refuse .state)
    else (moveLink n (Link.toQuiet s.clock) s, okReply [])

/-- LINK STATUS's reply body (R40, section 10.8). -/
def linkStatusBody (l : Link) (t : Settings) : List Byte :=
  let m := l.mode.map fun m => (linkClassCode m.cls, m.feedback)
  let r := l.recorded
  le 1 (linkStateCode l.state) ++ [flagByte l.good, present l.mode] ++ le 1 ((m.map (·.1)).getD 0)
    ++ [flagByte ((m.map (·.2)).getD false), present l.ceiling] ++ le 2 (l.ceiling.getD 0)
    ++ [present r] ++ le 1 ((r.map (·.content.classes.toNat)).getD 0)
    ++ [flagByte ((r.map (·.content.feedback)).getD false)] ++ le 1 ((r.map (·.content.ceiling.toNat)).getD 0)
    ++ [flagByte ((r.map (·.mark)).getD false)] ++ le 1 ((r.map (·.content.identity.toNat)).getD 0)
    ++ [flagByte l.ready, flagByte l.fault, present l.force, present l.driveSpeed, present l.lastSent,
        flagByte ((l.lastSent.map (·.enable)).getD false)]
    ++ leInt 4 (l.force.getD 0) ++ leInt 4 (l.driveSpeed.getD 0) ++ leInt 4 ((l.lastSent.map (·.demand)).getD 0)
    ++ [flagByte l.mismatch, flagByte t.linkEnable]

/-- LINK STATUS (R40): the link-good latch is returned, then set by the link's state. -/
def reqLinkStatus (body : List Byte) (s : State) : State × Reply :=
  match stationBody body with
  | none => (s, refuse .badValue)
  | some n =>
    let l := s.links.get n
    (s.withLink n { l with good := l.state == .up }, okReply (linkStatusBody l (s.settings.get n)))

/-- LINK COUNTERS (R41). -/
def reqLinkCounters (body : List Byte) (s : State) : State × Reply :=
  match stationBody body with
  | none => (s, refuse .badValue)
  | some n =>
    let l := s.links.get n
    (s.withLink n { l with checkErrors := 0, missedReplies := 0, negotiationFailures := 0 },
      okReply (le 2 l.checkErrors ++ le 2 l.missedReplies ++ le 2 l.negotiationFailures))

end Sys2Proof.Machine
end

