-- ==== Sys2Proof/Machine/Calibration.lean ====
section
/-! DEFINITION. The calibration store, the capability table and the station settings (chapter 3). -/

namespace Sys2Proof.Machine

/-- A write in flight on a station's record (R47). -/
def CalStore.writing (c : CalStore) (n : Station) : Bool :=
  match c.op with
  | some o => o.station == n && (match o.kind with | .write _ => true | .lock => false)
  | none => false

/-- The store is BUSY (R45). -/
def CalStore.busy (c : CalStore) : Bool := c.op.isSome

/-- The store accepts an operation (R45). -/
def CalStore.start (c : CalStore) (k : CalOpKind) (n : Station) (now : CellTime) : CalStore :=
  { c with op := some { kind := k, station := n, acceptedAt := now, due := now + Config.calibrationTime } }

/-- The operation in flight completes (R45). -/
def CalStore.finish (c : CalStore) (r : CalRecord) (wasLock : Bool) (n : Station) (now : CellTime) : CalStore :=
  { records := c.records.set n r, op := none, last := some { wasLock := wasLock, station := n, at_ := now } }

/-- A write replaces the constants of a record (R49). -/
def CalRecord.rewrite (r : CalRecord) (k : CalConstants) : CalRecord :=
  { r with circumference := k.circumference, mass := k.mass, lines := k.lines, valid := true,
           serial := if r.serial < 65535 then r.serial + 1 else 65535 }

/-- The completion of a write (R49, R18). -/
def completeWrite (n : Station) (k : CalConstants) (s : State) : State :=
  let s1 := s.withCal (s.cal.finish ((s.cal.records.get n).rewrite k) false n s.clock)
  s1.withUnit n (s1.units.get n).reconfigure

/-- CAL_WRITE_COMPLETION (R49): a write is in flight and its time has come; else the event does not occur (log 3). -/
def execCalWriteCompletion (s : State) : Answer State :=
  done (match s.cal.op with
    | some { kind := .write k, station := n, acceptedAt := _, due := d } =>
      if d ≤ s.clock then completeWrite n k s else s
    | some { kind := .lock, station := _, acceptedAt := _, due := _ } | none => s)

/-- The completion of a lock (R50). -/
def completeLock (n : Station) (s : State) : State :=
  s.withCal (s.cal.finish { s.cal.records.get n with locked := true } true n s.clock)

/-- CAL_LOCK_COMPLETION (R50): a lock is in flight and its time has come; else the event does not occur (log 3). -/
def execCalLockCompletion (s : State) : Answer State :=
  done (match s.cal.op with
    | some { kind := .lock, station := n, acceptedAt := _, due := d } =>
      if d ≤ s.clock then completeLock n s else s
    | some { kind := .write _, station := _, acceptedAt := _, due := _ } | none => s)

/-! ## Requests on the store -/

/-- CAL WRITE (R46). -/
def reqCalWrite (body : List Byte) (s : State) : State × Reply :=
  match calWriteBody body with
  | none => (s, refuse .badValue)
  | some (n, k) =>
    if s.cal.busy then (s, refuse .busy)
    else if (s.cal.records.get n).locked then (s, refuse .locked)
    else if s.inRunningGroup n then (s, refuse .state)
    else (s.withCal (s.cal.start (.write k) n s.clock), okReply [])

/-- CAL LOCK (R50). -/
def reqCalLock (body : List Byte) (s : State) : State × Reply :=
  match stationBody body with
  | none => (s, refuse .badValue)
  | some n =>
    if s.cal.busy then (s, refuse .busy)
    else if (s.cal.records.get n).locked then (s, refuse .locked)
    else if (s.cal.records.get n).valid then (s.withCal (s.cal.start .lock n s.clock), okReply [])
    else (s, refuse .state)

/-- The code of an operation's kind: 1 WRITE, 2 LOCK (section 10.8). -/
def calKindCode : CalOpKind → Nat
  | .write _ => 1
  | .lock => 2

/-- CAL READ's reply body (R52, section 10.8). -/
def calReadBody (c : CalStore) (n : Station) : List Byte :=
  let r := c.records.get n
  let flight := match c.op with
    | some o => if o.station = n then calKindCode o.kind else 0
    | none => 0
  le 4 r.circumference ++ le 2 r.mass ++ le 2 r.lines ++ [flagByte r.valid, flagByte r.locked]
    ++ le 2 r.serial ++ le 1 flight ++ zeros 1

/-- CAL READ (R52). -/
def reqCalRead (body : List Byte) (s : State) : State × Reply :=
  match stationBody body with
  | none => (s, refuse .badValue)
  | some n => (s, okReply (calReadBody s.cal n))

/-- The new constants an operation carries. -/
def CalOpKind.constants : CalOpKind → CalConstants
  | .write k => k
  | .lock => { circumference := 0, mass := 0, lines := 0 }

/-- CAL STATE's reply body (R53, section 10.8). -/
def calStateBody (c : CalStore) : List Byte :=
  (match c.op with
    | none => zeros 24
    | some o =>
      let k := o.kind.constants
      [1#8] ++ le 1 (calKindCode o.kind) ++ le 1 o.station.val ++ zeros 1 ++ le 6 o.acceptedAt ++ le 6 o.due
        ++ le 4 k.circumference ++ le 2 k.mass ++ le 2 k.lines)
  ++ (match c.last with
    | none => zeros 8
    | some d => le 1 (if d.wasLock then 2 else 1) ++ le 1 d.station.val ++ le 6 d.at_)

/-- CAL STATE (R53). -/
def reqCalState (_body : List Byte) (s : State) : State × Reply := (s, okReply (calStateBody s.cal))

/-- CAPABILITY READ (R54). -/
def reqCapabilityRead (body : List Byte) (s : State) : State × Reply :=
  match capabilityBody body with
  | none => (s, refuse .badValue)
  | some (o, n) => (s, okReply ((Config.capabilityTable.drop o).take n))

/-! ## Station settings (R56 to R58) -/

/-- An accepted STATION SET at the link (R31, R57): ACKNOWLEDGE and CONFIRM return to OFFER where the allowed classes or
the offered ceiling changed. -/
def Link.settingsChanged (old new : Settings) (l : Link) : Link :=
  match l.state with
  | .acknowledge | .confirm =>
    if old.classes ≠ new.classes ∨ old.offeredCeiling ≠ new.offeredCeiling then l.backToOffer none else l
  | .off | .quiet | .offer | .up | .lost | .noMatch => l

/-- STATION SET (R56, R57). -/
def reqStationSet (body : List Byte) (s : State) : State × Reply :=
  match stationSetBody body with
  | none => (s, refuse .badValue)
  | some (n, f) =>
    if (s.groupOf n).isSome then (s, refuse .state)
    else
      let old := s.settings.get n
      let new := f old
      (((s.withSettings n new).withUnit n (s.units.get n).reconfigure).withLink n
        ((s.links.get n).settingsChanged old new), okReply [])

/-- STATION READ's reply body (R58, section 10.8). -/
def stationReadBody (n : Station) (t : Settings) (g : Option GroupId) : List Byte :=
  le 1 n.val ++ le 1 t.decode ++ [flagByte t.invert, flagByte t.checkIndex] ++ le 1 t.tolerance
    ++ le 1 t.classes.toNat ++ [flagByte t.autoRenegotiate, flagByte t.linkEnable]
    ++ le 4 t.overspeedLimit ++ le 2 t.forceLimit ++ le 2 t.mismatchLimit
    ++ [present g] ++ le 1 ((g.map (·.val)).getD 0)

/-- STATION READ (R58). -/
def reqStationRead (body : List Byte) (s : State) : State × Reply :=
  match stationBody body with
  | none => (s, refuse .badValue)
  | some n => (s, okReply (stationReadBody n (s.settings.get n) (s.groupOf n)))

end Sys2Proof.Machine
end

