-- ==== Sys2Proof/Machine/Schedule.lean ====
section
/-! DEFINITION. The road-load scheduler (chapter 6) and the mark capture (section 1.2). -/

namespace Sys2Proof.Machine

/-! ## The resolved queue (R110) -/

/-- The order of R110: by resolved start, equal starts by arrival number. -/
def Resolved.before (x y : Resolved) : Bool :=
  decide (x.due < y.due) || (decide (x.due = y.due) && decide (x.seg.arrival < y.seg.arrival))

/-- A segment takes its place in the resolved queue. -/
def insertResolved (x : Resolved) : List Resolved → List Resolved
  | [] => [x]
  | y :: ys => if x.before y then x :: y :: ys else y :: insertResolved x ys

/-- The pending segments (R110). -/
def RoadQueue.total (r : RoadQueue) : Nat := r.resolved.length + r.unresolved.length

/-! ## Activation (R116 to R119) -/

/-- A group's schedule takes a segment that activates at `now` (R117, R119). For a segment that supersedes at one instant
another with ramp time 0, or the first from IDLE, the last sentence of R117 and the table of R119 name different
from-coefficients; the model takes R119, by which the blend starts from the first's own values (log 30). -/
def Schedule.activate (x : Schedule) (seg : Segment) (now : CellTime) (late : Bool) : Schedule :=
  let base : Schedule :=
    { x with state := .active, active := some seg, activatedAt := some now,
             endsAt := seg.duration.map (fun d => now + d * 1000),
             late := if late then satInc x.late else x.late }
  match x.state, x.applied with
  | .active, some from_ | .dry, some from_ =>
    if seg.ramp = 0 then { base with applied := some seg.coeffs, blend := none }
    else { base with applied := some from_,
                     blend := some { source := from_, target := seg.coeffs, ramp := seg.ramp, elapsed := 0 } }
  | _, _ => { base with applied := some seg.coeffs, blend := none }

/-- The segments at the head whose start has been reached activate one after another (R116). The answer is the queue
left and the schedules. -/
def activateDue (now : CellTime) : List Resolved → Quad Schedule → List Resolved × Quad Schedule
  | [], q => ([], q)
  | x :: xs, q =>
    if x.due ≤ now then
      activateDue now xs (q.set x.seg.group ((q.get x.seg.group).activate x.seg now (decide (x.due < now))))
    else (x :: xs, q)

/-- Every head that is due activates, in the event that made it so or at its start (R116). -/
def runActivations (s : State) : State :=
  let r := activateDue s.clock s.road.resolved s.scheds
  { s with road := { s.road with resolved := r.1 }, scheds := r.2 }

/-- SEGMENT_ACTIVATION (R116): the head has reached its resolved start; else the event does not occur (log 3). -/
def execSegmentActivation (s : State) : Answer State := done (runActivations s)

/-! ## Blend steps and duration end (R120, R122) -/

/-- One coefficient at step `e` of `r` (R120). -/
def blendValue (source target : Int) (e r : Nat) : Int := source + Int.tdiv ((target - source) * e) r

/-- The five coefficients at step `e` of `r`. -/
def blendCoeffs (b : Blend) (e : Nat) : Coeffs :=
  { a := blendValue b.source.a b.target.a e b.ramp, b := blendValue b.source.b b.target.b e b.ramp,
    c := blendValue b.source.c b.target.c e b.ramp, mass := blendValue b.source.mass b.target.mass e b.ramp,
    grade := blendValue b.source.grade b.target.grade e b.ramp }

/-- The cell time of a blend's next step (R120). -/
def Schedule.blendDue (x : Schedule) : Option CellTime :=
  match x.blend, x.activatedAt with
  | some b, some t => some (t + (b.elapsed + 1) * 1000)
  | _, _ => none

/-- A blend step (R120). -/
def Schedule.blendStep (x : Schedule) : Schedule :=
  match x.blend with
  | none => x
  | some b =>
    let e := b.elapsed + 1
    if b.ramp ≤ e then { x with applied := some b.target, blend := none }
    else { x with applied := some (blendCoeffs b e), blend := some { b with elapsed := e } }

/-- BLEND_STEP (R120). -/
def execBlendStep (g : GroupId) (s : State) : Answer State :=
  done (if dueAt s.clock (s.scheds.get g).blendDue then s.withSched g (s.scheds.get g).blendStep else s)

/-- The active segment's duration end has been reached (R122). -/
def Schedule.endDue (x : Schedule) (now : CellTime) : Bool := x.state == .active && dueAt now x.endsAt

/-- The schedule enters DRY: its state, the alert and the window's cause (R122). -/
def enterDry (g : GroupId) (s : State) : State :=
  let s1 := s.withSched g { s.scheds.get g with state := .dry, blend := none }
  windowCause g none (some .dry) (s1.withMon (s1.mon.latchScheduleDry g))

/-- DURATION_END (R122). -/
def execDurationEnd (g : GroupId) (s : State) : Answer State :=
  done (if (s.scheds.get g).endDue s.clock then enterDry g s else s)

/-! ## The mark (R4, R113) -/

/-- The unresolved list is resolved against a mark, in order of arrival number (R113). -/
def resolveAll (markTime : CellTime) (r : RoadQueue) : RoadQueue :=
  { r with
    resolved := r.unresolved.foldl (fun q seg => insertResolved { seg := seg, due := markTime + seg.start } q) r.resolved,
    unresolved := [] }

/-- A rising edge of MARK_IN (R4). Of the segments it resolves, those of offset 0 are due at once (R113, R116). That a head
already due, its own activation not yet taken, activates before them in this event is the model's choice (log 31). -/
def markEdge (s : State) : State :=
  let m := { s.mark with lastEdge := some s.clock, count := s.mark.count + 1#16 }
  if s.mark.armed then
    let s1 := s.withMark { m with time := some s.clock, valid := true, armed := false }
    let s2 := s1.withRoad (resolveAll s.clock s1.road)
    if s1.road.unresolved.any (fun x => x.start == 0) then runActivations s2 else s2
  else s.withMark m

/-- MARK_IN_EDGE (R4). -/
def execMarkInEdge (s : State) : Answer State := done (markEdge s)

/-- MARK ARM (R5). -/
def reqMarkArm (_body : List Byte) (s : State) : State × Reply :=
  (s.withMark { s.mark with armed := true, valid := false }, okReply [])

/-- MARK READ (R6). -/
def reqMarkRead (_body : List Byte) (s : State) : State × Reply :=
  let m := s.mark
  (s, okReply ([flagByte m.armed, flagByte m.valid, present m.time, present m.lastEdge] ++ le 2 m.count.toNat
    ++ timeBytes m.time ++ timeBytes m.lastEdge ++ le 6 s.clock))

/-- CLOCK READ (R2). -/
def reqClockRead (_body : List Byte) (s : State) : State × Reply := (s, okReply (le 6 s.clock))

/-! ## Requests (R111, R125, R126, R128) -/

/-- An accepted segment is placed (R112); the second part is the placement code of section 10.8. That a head already due,
its own activation not yet taken, activates in the event of a segment that is due at once is the model's choice (log 31). -/
def placeSegment (seg : Segment) (s : State) : State × Nat :=
  let s0 := s.withRoad { s.road with nextArrival := s.road.nextArrival + 1 }
  let resolveAt (t : CellTime) : State × Nat :=
    let s1 := s0.withRoad { s0.road with resolved := insertResolved { seg := seg, due := t } s0.road.resolved }
    if t ≤ s.clock then (runActivations s1, 2) else (s1, 0)
  match seg.basis with
  | .absolute => resolveAt seg.start
  | .mark =>
    match s.mark.valid, s.mark.time with
    | true, some m => resolveAt (m + seg.start)
    | _, _ => (s0.withRoad { s0.road with unresolved := s0.road.unresolved ++ [seg] }, 1)

/-- SEGMENT QUEUE (R111). -/
def reqSegmentQueue (body : List Byte) (s : State) : State × Reply :=
  match segmentBody body with
  | none => (s, refuse .badValue)
  | some seg =>
    if (s.groups.get seg.group).state = .undefined then (s, refuse .state)
    else if Config.segmentCapacity ≤ s.road.total then (s, refuse .full)
    else
      let p := placeSegment { seg with arrival := s.road.nextArrival } s
      (p.1, okReply (le 4 s.road.nextArrival ++ le 1 p.2 ++ zeros 1))

/-- The pending segments that pass a test stay; the second part is the number removed. -/
def removePending (keep : Segment → Bool) (s : State) : State × Nat :=
  let res := s.road.resolved.filter fun x => keep x.seg
  let unres := s.road.unresolved.filter keep
  (s.withRoad { s.road with resolved := res, unresolved := unres },
    s.road.total - (res.length + unres.length))

/-- SEGMENT FLUSH (R125). -/
def reqSegmentFlush (body : List Byte) (s : State) : State × Reply :=
  match groupBody body with
  | none => (s, refuse .badValue)
  | some g =>
    let p := removePending (fun x => x.group != g) s
    (p.1, okReply (le 1 p.2 ++ zeros 1))

/-- SEGMENT CANCEL (R126). -/
def reqSegmentCancel (body : List Byte) (s : State) : State × Reply :=
  match tagBody body with
  | none => (s, refuse .badValue)
  | some t =>
    let p := removePending (fun x => x.tag != t) s
    (p.1, okReply (le 1 p.2 ++ zeros 1))

/-- R127: what an accepted DISBAND does at the scheduler. -/
def disbandSchedule (g : GroupId) (s : State) : State :=
  let s1 := (removePending (fun x => x.group != g) s).1
  s1.withSched g { Schedule.reset with late := (s1.scheds.get g).late }

/-- R128: the remaining duration, none for an open-ended segment or in IDLE. -/
def Schedule.remaining (x : Schedule) (now : CellTime) : Option Nat :=
  match x.state with
  | .idle => none
  | .active => x.endsAt.map fun e => e - now
  | .dry => some 0

/-- One group's block of SCHEDULE READ, 40 bytes (section 10.8). -/
def scheduleBlock (g : GroupId) (s : State) : List Byte :=
  let x := s.scheds.get g
  let rem := x.remaining s.clock
  let k := x.applied.getD { a := 0, b := 0, c := 0, mass := 0, grade := 0 }
  le 1 (scheduleStateCode x.state) ++ [flagByte (x.state == .dry)]
    ++ le 1 (bitsToNat [x.activeTag.isSome, x.activatedAt.isSome, rem.isSome, x.blend.isSome, x.applied.isSome])
    ++ le 1 ((s.road.resolved.filter fun y => y.seg.group == g).length)
    ++ le 1 ((s.road.unresolved.filter fun y => y.group == g).length) ++ zeros 1
    ++ le 2 (x.activeTag.getD 0) ++ timeBytes x.activatedAt ++ le 4 (rem.getD 0)
    ++ le 2 ((x.blend.map (·.elapsed)).getD 0) ++ le 2 ((x.blend.map (·.ramp)).getD 0)
    ++ leInt 4 k.a ++ leInt 4 k.b ++ leInt 4 k.c ++ leInt 2 k.mass ++ leInt 2 k.grade ++ le 2 x.late

/-- SCHEDULE READ's reply body (R128). -/
def scheduleReadBody (s : State) : List Byte :=
  let head := s.road.resolved.head?.map (·.due)
  scheduleBlock 0 s ++ scheduleBlock 1 s ++ scheduleBlock 2 s ++ scheduleBlock 3 s
    ++ le 1 s.road.total ++ le 1 (Config.segmentCapacity - s.road.total) ++ [present head] ++ zeros 1
    ++ timeBytes head

/-- The four late-activation counters cleared (R128). -/
def clearLate (q : Quad Schedule) : Quad Schedule := Quad.ofFn fun g => { q.get g with late := 0 }

/-- SCHEDULE READ (R128): the counters are returned, then cleared. -/
def reqScheduleRead (_body : List Byte) (s : State) : State × Reply :=
  ({ s with scheds := clearLate s.scheds }, okReply (scheduleReadBody s))

end Sys2Proof.Machine
end

