-- ==== Sys2Proof/Machine/Groups.lean ====
section
/-! DEFINITION. The coupling groups' requests and the engage timer (chapter 4). -/

namespace Sys2Proof.Machine

/-! ## Defining and tuning -/

/-- A station of the list is a member of another defined group (R66, cause 4). -/
def State.takenElsewhere (s : State) (g : GroupId) (ms : List Member) : Bool :=
  ms.any fun m => allFour.any fun h =>
    h != g && (s.groups.get h).state != .undefined && (s.groups.get h).hasMember m.station

/-- The group record an accepted GROUP DEFINE leaves (R67). -/
def Group.defined (x : Group) (d : GroupDef) : Group :=
  { x with state := .free, defn := some d, offsets := none, history := List.replicate 8 0, rampProgress := 0,
           confirm := 0, periodSeq := 0#32 }

/-- GROUP DEFINE (R66, R67). -/
def reqGroupDefine (body : List Byte) (s : State) : State × Reply :=
  match groupDefineBody body with
  | none => (s, refuse .badValue)
  | some (g, d) =>
    let x := s.groups.get g
    if x.state ≠ .undefined ∧ x.state ≠ .free then (s, refuse .state)
    else if s.takenElsewhere g d.members then (s, refuse .state)
    else
      let s1 := (s.withGroup g (x.defined d)).withRing g Ring.reset
      (postZero g s1, okReply [])

/-- GROUP TUNE (R68). -/
def reqGroupTune (body : List Byte) (s : State) : State × Reply :=
  match groupTuneBody body with
  | none => (s, refuse .badValue)
  | some (g, t) =>
    let x := s.groups.get g
    match x.state, x.defn with
    | .undefined, _ | _, none => (s, refuse .state)
    | _, some d => (s.withGroup g { x with defn := some { d with tuning := t } }, okReply [])

/-! ## Reading -/

/-- The ramp fraction p ÷ q (R91): 1 ÷ 1 where the ramp time is 0. -/
def rampFraction (ramp progress : Nat) : Nat × Nat := if ramp = 0 then (1, 1) else (progress, ramp * 1000)

/-- A list of at most four fields, padded with 0 to four. -/
def padFour (enc : Int → List Byte) (xs : List Int) : List Byte :=
  enc (xs.getD 0 0) ++ enc (xs.getD 1 0) ++ enc (xs.getD 2 0) ++ enc (xs.getD 3 0)

/-- The definition as bytes 1..39 of GROUP DEFINE's body (section 10.8). -/
def definitionBytes (d : GroupDef) : List Byte :=
  let t := d.tuning
  le 1 (match d.kind with | .linked => 0 | .averaged => 1) ++ le 1 d.members.length ++ zeros 1
    ++ padFour (leInt 1) (d.members.map fun m => (m.station.val : Int))
    ++ padFour (leInt 2) (d.members.map fun m => (m.share : Int))
    ++ le 2 d.period ++ le 2 t.kp ++ le 2 t.kd ++ le 2 t.correctionLimit ++ le 4 t.lockPosition
    ++ le 4 t.tripPosition ++ le 2 t.lockSpeed ++ le 2 t.tripSpeed ++ le 2 d.ramp ++ le 2 d.engageTimeout

/-- GROUP READ's reply body (R69, section 10.8). -/
def groupReadBytes (x : Group) (posted : Quad Int) : List Byte :=
  match x.state, x.defn with
  | .undefined, _ | _, none => le 1 (groupStateCode x.state) ++ zeros 111
  | st, some d =>
    let f := rampFraction d.ramp x.rampProgress
    le 1 (groupStateCode st) ++ definitionBytes d ++ [present x.offsets] ++ le 1 x.confirm
      ++ [present x.openSlip, present x.periodDue, present x.engageDue] ++ zeros 1
      ++ le 2 ((x.openSlip.map (·.seq.toNat)).getD 0) ++ padFour (leInt 8) (x.offsets.getD [])
      ++ le 4 x.rampProgress ++ le 2 (f.1 * 1000 / f.2) ++ zeros 2 ++ le 4 x.periodSeq.toNat
      ++ padFour (leInt 2) (d.members.map fun m => posted.get m.station)
      ++ timeBytes x.periodDue ++ timeBytes x.engageDue

/-- GROUP READ (R69). -/
def reqGroupRead (body : List Byte) (s : State) : State × Reply :=
  match groupReadBody body with
  | none => (s, refuse .badValue)
  | some g => (s, okReply (groupReadBytes (s.groups.get g) s.posted))

/-! ## Engaging (R70, R71) -/

/-- The link of a member is UP and its drive is ready. -/
def Link.carries (l : Link) : Bool := l.state == .up && l.ready

/-- The negotiated update period of a link; none without a resolved mode. -/
def Link.updatePeriod (l : Link) : Option Nat := l.mode.map fun m => m.cls.period

/-- R70, cause 6: the update period is longer than the group period. -/
def Link.tooSlow (l : Link) (period : Nat) : Bool :=
  match l.updatePeriod with
  | some p => decide (period < p)
  | none => false

/-- R70, cause 8: the store's answer for a member's record. -/
def CalStore.usable (c : CalStore) (n : Station) : Bool := (c.records.get n).valid && !c.writing n

/-- Causes 4 to 8 of R70, in their order; none where the group may engage. -/
def engageRefusal (d : GroupDef) (s : State) : Option Status :=
  if s.mon.tripOut then some .tripped
  else if d.members.any fun m => !(s.links.get m.station).carries then some .noLink
  else if d.members.any fun m => (s.links.get m.station).tooSlow d.period then some .mismatch
  else if d.members.any fun m => !s.permitted m.station then some .state
  else if d.members.any fun m => !s.cal.usable m.station then some .state
  else none

/-- The reference speed of the members' estimates (R71, R88, R89). -/
def referenceSpeed (k : GroupKind) (speeds : List Int) : Int :=
  match k with
  | .linked => speeds.headD 0
  | .averaged => Int.tdiv speeds.sum speeds.length

/-- An accepted ENGAGE at the group (R71). -/
def startGroup (g : GroupId) (d : GroupDef) (s : State) : State :=
  let x := s.groups.get g
  let ref := hold32 (referenceSpeed d.kind (d.members.map fun m => (s.units.get m.station).speed))
  let s1 := s.withGroup g { x with
    state := .engaging, offsets := some (d.members.map fun m => (s.units.get m.station).travel),
    history := List.replicate 8 ref, rampProgress := 0, confirm := 0,
    periodDue := some (s.clock + d.period), engageDue := some (s.clock + d.engageTimeout * 1000),
    engagedAt := some s.clock }
  let s2 := s1.withRing g { s1.rings.get g with frozen := false }
  if d.members.any fun m => !(s.cal.records.get m.station).locked then s2.withMon s2.mon.latchCalUnlocked else s2

/-- ENGAGE (R70, R71). -/
def reqEngage (body : List Byte) (s : State) : State × Reply :=
  match groupBody body with
  | none => (s, refuse .badValue)
  | some g =>
    let x := s.groups.get g
    match x.state, x.defn with
    | .free, some d | .held, some d =>
      (match engageRefusal d s with
        | some st => (s, refuse st)
        | none => (startGroup g d s, okReply []))
    | _, _ => (s, refuse .state)

/-! ## The engage timer (R73) -/

/-- The engage has failed (R73): FREE, with a closed ENGAGE_TIMEOUT record. -/
def engageFailed (g : GroupId) (s : State) : State :=
  let s1 := enterFree g s
  let w := writeClosed g .engageTimeout ((s1.groups.get g).engagedAt.getD 0) .timeout s1
  windowCause g w.2 none w.1

/-- ENGAGE_TIMER_EXPIRY (R73). -/
def execEngageTimerExpiry (g : GroupId) (s : State) : Answer State :=
  let x := s.groups.get g
  done (if x.state = .engaging ∧ dueAt s.clock x.engageDue then engageFailed g s else s)

/-! ## Releasing and disbanding (R74, R75) -/

/-- An accepted RELEASE at the group (R74). -/
def releaseGroup (g : GroupId) (s : State) : State :=
  let c := closeExcursion g .released s
  let s1 := enterFree g c.1
  let s2 := s1.withGroup g { s1.groups.get g with rampProgress := 0, confirm := 0 }
  windowCause g c.2 (some .release) s2

/-- RELEASE (R74). -/
def reqRelease (body : List Byte) (s : State) : State × Reply :=
  match groupBody body with
  | none => (s, refuse .badValue)
  | some g =>
    match (s.groups.get g).state with
    | .engaging | .locked | .slipping | .held => (releaseGroup g s, okReply [])
    | .tripped => if s.mon.tripOut then (s, refuse .tripped) else (releaseGroup g s, okReply [])
    | .free | .undefined => (s, refuse .state)

/-- R173: a DISBAND closes an open window with the verdict INVALID. -/
def disbandWindow (g : GroupId) (s : State) : State :=
  let s1 := windowCause g none (some .disband) s
  let w := s1.windows.get g
  match w.state with
  | .closed => s1
  | .openValid | .openInvalid =>
    s1.withWindow g { Window.reset with
      last := some { invalid := true, cause := w.cause, limit := w.limit, openedAt := w.openedAt,
                     closedAt := s.clock, byDisband := true } }

/-- An accepted DISBAND (R75, R127, R173). -/
def disbandGroup (g : GroupId) (s : State) : State :=
  let s1 := postZero g s
  let s2 := s1.withGroup g { s1.groups.get g with
    state := .undefined, defn := none, periodDue := none, engageDue := none, sync := false }
  disbandWindow g (disbandSchedule g s2)

/-- DISBAND (R75). -/
def reqDisband (body : List Byte) (s : State) : State × Reply :=
  match groupBody body with
  | none => (s, refuse .badValue)
  | some g =>
    if (s.groups.get g).state = .free then (disbandGroup g s, okReply []) else (s, refuse .state)

end Sys2Proof.Machine
end

