-- ==== Sys2Proof/Machine/Period.lean ====
section
/-! DEFINITION. The control period of a group, through its eleven stages (chapter 5). -/

namespace Sys2Proof.Machine

/-! ## Stage 1: readings (R86) -/

/-- What a period reads of one member. -/
structure Reading where
  station : Station
  share : Nat
  /-- travel less the member's offset -/
  rel : Int
  speed : Int
  mass : Nat
  ceiling : Nat
deriving DecidableEq, Repr

/-- The readings of the members in order, each with its offset (R86). A missing offset or ceiling, which no driving or
held group has, reads as 0 (log 24). -/
def readings (s : State) : List Member → List Int → List Reading
  | [], _ => []
  | m :: ms, os =>
    { station := m.station, share := m.share, rel := (s.units.get m.station).travel - os.headD 0,
      speed := (s.units.get m.station).speed, mass := (s.cal.records.get m.station).mass,
      ceiling := (s.links.get m.station).ceiling.getD 0 } :: readings s ms os.tail

/-! ## Stages 2 and 3: reference and errors (R88, R89, R90) -/

/-- The reference position (R88, R89). -/
def referencePosition (k : GroupKind) (rels : List Int) : Int :=
  hold64 (match k with
    | .linked => rels.headD 0
    | .averaged => Int.tdiv rels.sum rels.length)

/-- A member's errors: position and speed (R90). -/
structure Errors where
  pos : Int
  spd : Int
deriving DecidableEq, Repr

/-- The errors of a member against a reference (R90). -/
def Reading.errors (r : Reading) (refPos refSpeed : Int) : Errors :=
  { pos := hold64 (refPos - r.rel), spd := hold32 (refSpeed - r.speed) }

/-- The errors of every member; those of the master of a LINKED group are 0 (R90). -/
def memberErrors (k : GroupKind) (rs : List Reading) (refPos refSpeed : Int) : List Errors :=
  match k, rs with
  | .linked, _ :: followers => { pos := 0, spd := 0 } :: followers.map fun r => r.errors refPos refSpeed
  | _, rs => rs.map fun r => r.errors refPos refSpeed

/-! ## Stage 4: corrections (R91, R92, R93) -/

/-- The raw correction of a member (R91), for the ramp fraction p ÷ q. -/
def rawCorrection (t : Tuning) (pq : Nat × Nat) (e : Errors) : Int :=
  hold32 (Int.tdiv (pq.1 * (t.kp * e.pos + 1000 * t.kd * e.spd)) (1000 * pq.2))

/-- The parts of all members but the last, and the last member's, which brings the sum to `total` (R93, R97). -/
def withRemainder (parts : List Int) (total : Int) : List Int := parts ++ [total - parts.sum]

/-- The largest magnitude in a list. -/
def largest (xs : List Int) : Nat := xs.foldl (fun m x => max m x.natAbs) 0

/-- The corrections with the flags "correction scaled" and "correction limited". -/
structure Corrections where
  values : List Int
  scaled : Bool
  limited : Bool
deriving DecidableEq, Repr

/-- R92: a LINKED group. -/
def linkedCorrections (t : Tuning) (pq : Nat × Nat) (es : List Errors) : Corrections :=
  match es with
  | [] => { values := [], scaled := false, limited := false }
  | _ :: followers =>
    let raws := followers.map (rawCorrection t pq)
    let lim : Int := t.correctionLimit
    { values := 0 :: raws.map (hold (-lim) lim), scaled := false,
      limited := raws.any fun c => decide (t.correctionLimit < c.natAbs) }

/-- R93: an AVERAGED group. -/
def averagedCorrections (t : Tuning) (pq : Nat × Nat) (es : List Errors) : Corrections :=
  let formed := withRemainder (es.dropLast.map (rawCorrection t pq)) 0
  let m := largest formed
  if m ≤ t.correctionLimit then { values := formed, scaled := false, limited := false }
  else
    { values := withRemainder (formed.dropLast.map fun c => Int.tdiv (c * t.correctionLimit) m) 0,
      scaled := true, limited := false }

/-- Stage 4. -/
def corrections (k : GroupKind) (t : Tuning) (pq : Nat × Nat) (es : List Errors) : Corrections :=
  match k with
  | .linked => linkedCorrections t pq es
  | .averaged => averagedCorrections t pq es

/-! ## Stage 5: acceleration and road-load force (R94, R95, R96) -/

/-- The acceleration handed to the ring, in mm/s² (R94). -/
def ringAcceleration (dv : Int) (period : Nat) : Int := hold32 (Int.tdiv (dv * 1000000) (8 * period))

/-- The road-load force (R96): the exact sum of the five terms over the common denominator 10^10 × 8 × T, times the ramp
fraction, rounded once. -/
def roadLoadForce (k : Coeffs) (v dv : Int) (sumMass period : Nat) (pq : Nat × Nat) : Int :=
  let eightT : Int := 8 * period
  let num := (k.a * 1000000000 + k.b * v * 100000 + k.c * v * v.natAbs + k.grade * 10000000000) * eightT
    + (k.mass - sumMass) * dv * 1000 * 10000000000
  hold32 (Int.tdiv (num * pq.1) (10000000000 * eightT * pq.2))

/-- The speed history shifts (R94). -/
def shiftHistory (h : List Int) (v : Int) : List Int := h.tail ++ [v]

/-! ## Stages 6 and 7: shares and demands (R97, R98) -/

/-- R97. -/
def roadShares (force : Int) (shares : List Nat) : List Int :=
  withRemainder (shares.dropLast.map fun (p : Nat) => Int.tdiv (force * (p : Int)) 1000) force

/-- The demand of one member before and after its ceiling (R98). -/
def demandOf (share correction : Int) (ceiling : Nat) : Int := hold (-(ceiling : Int)) ceiling (share + correction)

/-- The demands and the flag "demand limited" (R98). -/
def demands : List Int → List Int → List Nat → List Int × Bool
  | s :: ss, c :: cs, l :: ls =>
    let r := demands ss cs ls
    (demandOf s c l :: r.1, decide (l < (s + c).natAbs) || r.2)
  | _, _, _ => ([], false)

/-! ## What a period forms -/

/-- What stages 1 to 3 and 9 form in every running state. -/
structure PeriodBase where
  refSpeed : Int
  errors : List Errors
  maxPos : Nat
  maxSpd : Nat
deriving DecidableEq, Repr

/-- Stages 2 and 3, and the sync error of stage 9 (R88 to R90, R100). -/
def periodBase (k : GroupKind) (rs : List Reading) : PeriodBase :=
  let refPos := referencePosition k (rs.map (·.rel))
  let refSpeed := hold32 (referenceSpeed k (rs.map (·.speed)))
  let es := memberErrors k rs refPos refSpeed
  { refSpeed := refSpeed, errors := es, maxPos := holdU32 (largest (es.map (·.pos))),
    maxSpd := holdU32 (largest (es.map (·.spd))) }

/-- What stages 4 to 7 form in a driving state. -/
structure PeriodDrive where
  demands : List Int
  force : Int
  accel : Int
  scaled : Bool
  limited : Bool
  demandLimited : Bool
deriving DecidableEq, Repr

/-- Stages 4 to 7 (R91 to R98). `pq` is the ramp fraction; it fades the force in ENGAGING alone (R96). -/
def periodDrive (d : GroupDef) (engaging : Bool) (pq : Nat × Nat) (history : List Int) (applied : Option Coeffs)
    (rs : List Reading) (b : PeriodBase) : PeriodDrive :=
  let cs := corrections d.kind d.tuning pq b.errors
  let dv := b.refSpeed - history.headD 0
  let force := match applied with
    | none => 0
    | some k => roadLoadForce k b.refSpeed dv (rs.map (·.mass)).sum d.period (if engaging then pq else (1, 1))
  let ds := demands (roadShares force (rs.map (·.share))) cs.values (rs.map (·.ceiling))
  { demands := ds.1, force := force, accel := ringAcceleration dv d.period, scaled := cs.scaled,
    limited := cs.limited, demandLimited := ds.2 }

/-! ## Stages 8 to 11 -/

/-- Stage 8: each member's demand is posted (R99). -/
def postDemands : List Reading → List Int → Quad Int → Quad Int
  | r :: rs, d :: ds, p => postDemands rs ds (p.set r.station d)
  | _, _, p => p

/-- Both maxima lie within a window (R100). -/
def insideWindow (b : PeriodBase) (position speed : Nat) : Bool :=
  decide (b.maxPos ≤ position) && decide (b.maxSpd ≤ speed)

/-- The SYNC condition of a period (R104). -/
def syncOf (t : Tuning) (b : PeriodBase) : Bool := !insideWindow b t.tripPosition t.tripSpeed

/-- R103: both maxima lie within three quarters of the lock window. -/
def relocks (t : Tuning) (b : PeriodBase) : Bool :=
  decide (4 * b.maxPos ≤ 3 * t.lockPosition) && decide (4 * b.maxSpd ≤ 3 * t.lockSpeed)

/-- R101: the lock confirmation count. -/
def confirmStep (count : Nat) (full inside : Bool) : Nat :=
  if inside then (if full then count + 1 else count) else 0

/-- The peaks of the open record take a period's sync error (R164). -/
def OpenSlip.peak (o : OpenSlip) (b : PeriodBase) : OpenSlip :=
  { o with peakPosition := max o.peakPosition b.maxPos, peakSpeed := max o.peakSpeed b.maxSpd }

/-- Stage 9 in ENGAGING (R101). -/
def judgeEngaging (g : GroupId) (full inside : Bool) (s : State) : State :=
  let x := s.groups.get g
  let c := confirmStep x.confirm full inside
  if c = 8 then s.withGroup g { x with confirm := c, state := .locked, engageDue := none }
  else s.withGroup g { x with confirm := c }

/-- Stage 9 in LOCKED (R102). -/
def judgeLocked (g : GroupId) (b : PeriodBase) (inside : Bool) (s : State) : State :=
  if inside then s
  else
    let s1 := s.withGroup g { s.groups.get g with state := .slipping }
    openExcursion g b.maxPos b.maxSpd s1

/-- Stage 9 in SLIPPING (R103, R164, R165). -/
def judgeSlipping (g : GroupId) (t : Tuning) (b : PeriodBase) (s : State) : State :=
  let x := s.groups.get g
  let s1 := s.withGroup g { x with openSlip := x.openSlip.map fun o => o.peak b }
  if relocks t b then
    let c := closeExcursion g .recovered s1
    windowCause g c.2 none (c.1.withGroup g { c.1.groups.get g with state := .locked })
  else s1

/-- Stage 9: the SYNC condition and the state outcome (R100 to R104). -/
def stageNine (g : GroupId) (t : Tuning) (full : Bool) (b : PeriodBase) (s : State) : State :=
  let x := s.groups.get g
  let s1 := s.withGroup g { x with sync := syncOf t b }
  let inside := insideWindow b t.lockPosition t.lockSpeed
  match x.state with
  | .engaging => judgeEngaging g full inside s1
  | .locked => judgeLocked g b inside s1
  | .slipping => judgeSlipping g t b s1
  | .undefined | .free | .held | .tripped => s1

/-- Stage 10: the ramp progress (R105, R108). -/
def advanceRamp (st : GroupState) (ramp period progress : Nat) : Nat :=
  match st with
  | .engaging | .locked | .slipping => min (progress + period) (ramp * 1000)
  | .held => 0
  | .undefined | .free | .tripped => progress

/-- A period entry enters the ring, unless it is frozen (R175). -/
def Ring.write (r : Ring) (e : RingEntry) : Ring :=
  if r.frozen then r
  else { r with slots := r.slots.set r.next (some e), next := (r.next + 1) % Config.ringDepth }

/-- Stages 10 and 11, and the reload of the period timer (R85, R105, R106). `e` is the entry but for its state. -/
def endPeriod (g : GroupId) (d : GroupDef) (e : RingEntry) (s : State) : State :=
  let x := s.groups.get g
  let s1 := s.withRing g ((s.rings.get g).write { e with state := x.state })
  s1.withGroup g { x with
    rampProgress := advanceRamp x.state d.ramp d.period x.rampProgress,
    periodSeq := x.periodSeq + 1#32, periodDue := some (s.clock + d.period) }

/-- A period in ENGAGING, LOCKED or SLIPPING (R85 to R106). -/
def drivingPeriod (g : GroupId) (d : GroupDef) (s : State) : State :=
  let x := s.groups.get g
  let rs := readings s d.members (x.offsets.getD [])
  let pq := rampFraction d.ramp x.rampProgress
  let full := decide (pq.1 = pq.2)
  let b := periodBase d.kind rs
  let v := periodDrive d (x.state == .engaging) pq x.history (s.scheds.get g).applied rs b
  let s1 := s.withPosted (postDemands rs v.demands s.posted)
  let s2 := s1.withGroup g { s1.groups.get g with history := shiftHistory x.history b.refSpeed }
  let s3 := stageNine g d.tuning full b s2
  endPeriod g d
    { seq := x.periodSeq, at_ := s.clock, state := x.state, refSpeed := b.refSpeed, accel := v.accel,
      force := v.force, maxPosition := b.maxPos, maxSpeed := b.maxSpd, scaled := v.scaled, limited := v.limited,
      demandLimited := v.demandLimited, ramping := !full } s3

/-- A period in HELD (R108). -/
def heldPeriod (g : GroupId) (d : GroupDef) (s : State) : State :=
  let x := s.groups.get g
  let rs := readings s d.members (x.offsets.getD [])
  let b := periodBase d.kind rs
  let s1 := postZero g s
  let s2 := stageNine g d.tuning false b s1
  endPeriod g d
    { seq := x.periodSeq, at_ := s.clock, state := x.state, refSpeed := b.refSpeed, accel := 0, force := 0,
      maxPosition := b.maxPos, maxSpeed := b.maxSpd, scaled := false, limited := false, demandLimited := false,
      ramping := false } s2

/-- A control period by the state it is taken in (R85). -/
def runPeriod (g : GroupId) (s : State) : State :=
  match (s.groups.get g).state, (s.groups.get g).defn with
  | .engaging, some d | .locked, some d | .slipping, some d => drivingPeriod g d s
  | .held, some d => heldPeriod g d s
  | _, _ => s

/-- PERIOD_TIMER_EXPIRY (R85): the group runs and its period timer has reached its expiry; else the event does not occur
(log 3). -/
def execPeriodTimerExpiry (g : GroupId) (s : State) : Answer State :=
  done (if dueAt s.clock (s.groups.get g).periodDue then runPeriod g s else s)

end Sys2Proof.Machine
end

