-- ==== Sys2Proof/Machine/Permits.lean ====
section
/-! DEFINITION. The permit unit (chapter 7). -/

namespace Sys2Proof.Machine

/-- The expiry cell time of a timer started at `now` with the permit time in ms (R130). -/
def Permit.dueFrom (p : Permit) (now : CellTime) : CellTime := now + p.time * 1000

/-- PERMIT TIME (R131). -/
def reqPermitTime (body : List Byte) (s : State) : State × Reply :=
  match permitTimeBody body with
  | none => (s, refuse .badValue)
  | some t => (s.withPermit { s.permit with time := t }, okReply [])

/-- The permit unit after an accepted grant (R133). -/
def Permit.grant (p : Permit) (m : BitVec 4) (now : CellTime) : Permit :=
  if m = 0#4 then { p with mask := m, due := none }
  else if p.mask = 0#4 then { p with mask := m, due := some (p.dueFrom now) }
  else { p with mask := m }

/-- PERMIT GRANT (R132, R133, R134). -/
def reqPermitGrant (body : List Byte) (s : State) : State × Reply :=
  match maskBody body with
  | none => (s, refuse .badValue)
  | some m =>
    if m ≠ 0#4 ∧ s.mon.tripOut = true then (s, refuse .tripped)
    else if m ≠ 0#4 ∧ s.permit.time = 0 then (s, refuse .state)
    else
      let removed := s.permit.mask &&& ~~~m
      (claimRemoved removed (s.withPermit (s.permit.grant m s.clock)), okReply [])

/-- PERMIT RENEW (R135). -/
def reqPermitRenew (body : List Byte) (s : State) : State × Reply :=
  match maskBody body with
  | none => (s, refuse .badValue)
  | some m =>
    if s.permit.due.isSome ∧ m = s.permit.mask then
      (s.withPermit { s.permit with due := some (s.permit.dueFrom s.clock) }, okReply [])
    else (s, refuse .mismatch)

/-- PERMIT READ's reply body (R140, section 10.8). -/
def permitReadBody (p : Permit) (now : CellTime) : List Byte :=
  le 1 p.mask.toNat ++ [present p.due] ++ le 2 p.time ++ timeBytes p.due
    ++ le 4 ((p.due.map fun d => d - now).getD 0) ++ le 6 now

/-- PERMIT READ (R140). -/
def reqPermitRead (_body : List Byte) (s : State) : State × Reply := (s, okReply (permitReadBody s.permit s.clock))

/-- The permission has run out (R136). -/
def permitExpired (s : State) : State :=
  let held := s.permit.mask
  let s1 := s.withPermit { s.permit with mask := 0#4, due := none }
  claimRemoved held (s1.withMon s1.mon.latchPermitExpired)

/-- PERMIT_TIMER_EXPIRY (R136). -/
def execPermitTimerExpiry (s : State) : Answer State :=
  done (if dueAt s.clock s.permit.due then permitExpired s else s)

end Sys2Proof.Machine
end

