-- ==== Sys2Proof/Machine/Protection.lean ====
section
/-! DEFINITION. The protection monitor's commands (chapter 8). -/

namespace Sys2Proof.Machine

/-! ## Events -/

/-- FILTER_TIMER_EXPIRY (R145): the flag is PENDING and its timer has reached its expiry; else the event does not occur
(log 3). -/
def execFilterTimerExpiry (i : FilteredId) (s : State) : Answer State :=
  done (if (s.mon.flags.get i).expiryDue s.clock then s.withMon (s.mon.mapFlag i Filtered.expire) else s)

/-- TRIP_IN_CHANGE (R143): the level is handed to the flag at the end of the event. -/
def execTripInChange (level : Bool) (s : State) : Answer State := done (s.withMon { s.mon with tripIn := level })

/-- ESTOP_IN_CHANGE (R150): an assertion latches ESTOP, a deassertion leaves it. -/
def execEstopInChange (asserted : Bool) (s : State) : Answer State :=
  done (s.withMon { s.mon with
    estopIn := asserted, estop := s.mon.estop || (asserted && !s.mon.estopIn) })

/-! ## Requests -/

/-- FILTER SET at the monitor (R148). -/
def Monitor.setFilter (m : Monitor) (k : FilterKind) (t : Nat) : Monitor :=
  let m1 := { m with times := m.times.set k t }
  if m.enabled.get k then m1.mapKind k (Filtered.retime (m.times.get k) t) else m1

/-- FILTER SET (R148). -/
def reqFilterSet (body : List Byte) (s : State) : State × Reply :=
  match filterSetBody body with
  | none => (s, refuse .badValue)
  | some (k, t) => (s.withMon (s.mon.setFilter k t), okReply [])

/-- SOURCE ENABLE at the monitor (R149). -/
def Monitor.setSource (m : Monitor) (k : FilterKind) (on : Bool) (now : CellTime) : Monitor :=
  let m1 := { m with enabled := m.enabled.set k on }
  if on then
    (if m.enabled.get k then m else m1.mapKind k (Filtered.enable (m.times.get k) now))
  else m1.mapKind k Filtered.disable

/-- SOURCE ENABLE (R149). -/
def reqSourceEnable (body : List Byte) (s : State) : State × Reply :=
  match sourceEnableBody body with
  | none => (s, refuse .badValue)
  | some (k, v) => (s.withMon (s.mon.setSource k v s.clock), okReply [])

/-- FORCE SET (R151). -/
def reqForceSet (body : List Byte) (s : State) : State × Reply :=
  match forceSetBody body with
  | none => (s, refuse .badValue)
  | some (t, a) => (s.withMon { s.mon with forceTrip := t, forceAlert := a }, okReply [])

/-- NOTICE MASK (R160). -/
def reqNoticeMask (body : List Byte) (s : State) : State × Reply :=
  match flagSetBody body with
  | none => (s, refuse .badValue)
  | some w => (s.withMon { s.mon with noticeMask := w }, okReply [])

/-- The number of a filtered flag (section 10.8). -/
def flagNumber : FilteredId → Nat
  | .overspeed n => n.val
  | .encoder n => 4 + n.val
  | .link n => 8 + n.val
  | .mismatch n => 12 + n.val
  | .sync g => 16 + g.val
  | .tripIn => 20

/-- A named alert clears (R152). -/
def clearAlert (named held : Bool) : Bool := held && !named

/-- FLAGS CLEAR at the monitor (R153): every named flag in one event. -/
def Monitor.clearFlags (m : Monitor) (w : BitVec 34) (now : CellTime) : Monitor :=
  let a := m.alerts
  { m with
    flags := m.flags.mapIds fun i f =>
      if w.getLsbD (flagNumber i) then f.clearNamed (m.times.get i.kind) now else f,
    estop := m.estop && !(w.getLsbD 21 && !m.estopIn),
    alerts :=
      { powerOn := clearAlert (w.getLsbD 23) a.powerOn, restart := clearAlert (w.getLsbD 24) a.restart,
        permitExpired := clearAlert (w.getLsbD 25) a.permitExpired,
        scheduleDry := Quad.ofFn fun g => clearAlert (w.getLsbD (26 + g.val)) (a.scheduleDry.get g),
        calUnlocked := clearAlert (w.getLsbD 30) a.calUnlocked,
        portCheck := clearAlert (w.getLsbD 31) a.portCheck, logLost := clearAlert (w.getLsbD 33) a.logLost } }

/-- The report of a filtered flag in FLAGS CLEAR's reply: 0 clear, 1 PENDING, 2 LATCHED, 3 following (section 10.8). -/
def Monitor.filteredReport (m : Monitor) (i : FilteredId) : Nat :=
  match (m.flags.get i).state with
  | .pending => 1
  | .latched => 2
  | .clear => if m.filteredSet i then 3 else 0

/-- A latched flag's report: 2 LATCHED, 0 clear. -/
def latchReport (b : Bool) : Nat := if b then 2 else 0

/-- A forced flag's report: 4 set, 5 clear. -/
def forcedReport (b : Bool) : Nat := if b then 4 else 5

/-- The reports of the 34 flags, in the order of their numbers. -/
def Monitor.reports (m : Monitor) : List Nat :=
  filteredIds.map m.filteredReport ++ [latchReport m.estop, forcedReport m.forceTrip]
    ++ [m.alerts.powerOn, m.alerts.restart, m.alerts.permitExpired].map latchReport
    ++ m.alerts.scheduleDry.toList.map latchReport
    ++ [latchReport m.alerts.calUnlocked, latchReport m.alerts.portCheck, forcedReport m.forceAlert,
        latchReport m.alerts.logLost]

/-- The bytes of FLAGS CLEAR's reply from flag number `i` on: FFh where the flag was not named. -/
def reportBytes (w : BitVec 34) : Nat → List Nat → List Byte
  | _, [] => []
  | i, r :: rs => (if w.getLsbD i then BitVec.ofNat 8 r else 0xFF#8) :: reportBytes w (i + 1) rs

/-- FLAGS CLEAR (R153): the reply reports the named flags as the request leaves them. -/
def reqFlagsClear (body : List Byte) (s : State) : State × Reply :=
  match flagSetBody body with
  | none => (s, refuse .badValue)
  | some w =>
    let m := s.mon.clearFlags w s.clock
    (s.withMon m, okReply (reportBytes w 0 m.reports ++ [flagByte m.estopIn] ++ zeros 1))

/-- One filtered flag's byte in FLAGS READ (section 10.8). -/
def Monitor.filteredByte (m : Monitor) (i : FilteredId) : Byte :=
  let f := m.flags.get i
  BitVec.ofNat 8 (filterStateCode f.state + (if m.filteredSet i then 4 else 0) + (if f.level then 8 else 0))

/-- The expiry cell time reported for a filtered flag: 0 where it is not PENDING. -/
def Filtered.expiryBytes (f : Filtered) : List Byte :=
  match f.state with
  | .pending => timeBytes f.due
  | .clear | .latched => zeros 6

/-- FLAGS READ's reply body (R161, section 10.8). -/
def flagsReadBody (m : Monitor) (now : CellTime) : List Byte :=
  le 8 m.flagWord.toNat ++ filteredIds.map m.filteredByte
    ++ [if m.estop then 2#8 else 0#8, flagByte m.tripOut, flagByte m.attnOut] ++ le 2 m.tripCount
    ++ [flagByte m.tripIn, flagByte m.estopIn] ++ m.times.toList.flatMap (le 2)
    ++ le 1 (bitsToNat m.enabled.toList) ++ zeros 1 ++ le 8 m.noticeMask.toNat ++ le 6 now
    ++ filteredIds.flatMap fun i => (m.flags.get i).expiryBytes

/-- FLAGS READ (R161). -/
def reqFlagsRead (_body : List Byte) (s : State) : State × Reply := (s, okReply (flagsReadBody s.mon s.clock))

end Sys2Proof.Machine
end

