-- ==== Sys2Proof/Machine/Records.lean ====
section
/-! DEFINITION. The requests on the excursion log, the validity windows and the period rings (chapter 9). -/

namespace Sys2Proof.Machine

/-! ## The excursion log (R168) -/

/-- An excursion record as fetched, 28 bytes (section 10.8). -/
def excursionBytes (r : ExcRecord) : List Byte :=
  le 2 r.seq.toNat ++ le 1 r.group.val ++ le 1 (excKindCode r.kind) ++ le 1 (excOutcomeCode r.outcome)
    ++ [present r.tag] ++ le 2 (r.tag.getD 0) ++ le 6 r.start ++ le 6 r.stop ++ le 4 r.peakPosition
    ++ le 4 r.peakSpeed

/-- EXCURSION FETCH (R168). -/
def reqExcursionFetch (body : List Byte) (s : State) : State × Reply :=
  match fetchBody body with
  | none => (s, refuse .badValue)
  | some n =>
    let rs := s.exc.log.take n
    (s.withExc { s.exc with log := s.exc.log.drop n, lost := 0 },
      okReply (le 1 rs.length ++ zeros 1 ++ le 2 s.exc.lost ++ rs.flatMap excursionBytes))

/-! ## Validity windows (R171, R174) -/

/-- WINDOW OPEN (R171). -/
def reqWindowOpen (body : List Byte) (s : State) : State × Reply :=
  match windowOpenBody body with
  | none => (s, refuse .badValue)
  | some (g, limit) =>
    if (s.groups.get g).state = .undefined ∨ (s.windows.get g).state ≠ .closed then (s, refuse .state)
    else
      (s.withWindow g { s.windows.get g with state := .openValid, limit := limit, openedAt := s.clock, cause := none },
        okReply [])

/-- The verdict an open window gives at `now` (R174). -/
def Window.verdict (w : Window) (now : CellTime) : Verdict :=
  { invalid := w.state == .openInvalid, cause := w.cause, limit := w.limit, openedAt := w.openedAt,
    closedAt := now, byDisband := false }

/-- WINDOW CLOSE (R174). The window's first cause is kept in its last verdict alone (log 12). -/
def reqWindowClose (body : List Byte) (s : State) : State × Reply :=
  match groupBody body with
  | none => (s, refuse .badValue)
  | some g =>
    let w := s.windows.get g
    match w.state with
    | .closed => (s, refuse .state)
    | .openValid | .openInvalid =>
      (s.withWindow g { Window.reset with last := some (w.verdict s.clock) },
        okReply (verdictBlock (some (w.verdict s.clock))))

/-- The coding of a window state (section 10.8). -/
def windowStateCode : WindowState → Nat
  | .closed => 0
  | .openValid => 1
  | .openInvalid => 2

/-- WINDOW READ (R174). -/
def reqWindowRead (body : List Byte) (s : State) : State × Reply :=
  match groupBody body with
  | none => (s, refuse .badValue)
  | some g =>
    let w := s.windows.get g
    (s, okReply (le 1 (windowStateCode w.state) ++ [present w.last] ++ le 2 w.limit ++ le 6 w.openedAt
      ++ causeBlock w.cause ++ verdictBlock w.last))

/-! ## Period rings (R176, R177, R178, R195) -/

/-- RING FREEZE (R176). -/
def reqRingFreeze (body : List Byte) (s : State) : State × Reply :=
  match groupBody body with
  | none => (s, refuse .badValue)
  | some g => (s.withRing g { s.rings.get g with frozen := true }, okReply [])

/-- RING UNFREEZE (R176). -/
def reqRingUnfreeze (body : List Byte) (s : State) : State × Reply :=
  match groupBody body with
  | none => (s, refuse .badValue)
  | some g => (s.withRing g { s.rings.get g with frozen := false }, okReply [])

/-- The slot at a position of the read sequence (R177). -/
def RingQuery.slot (q : RingQuery) (position : Nat) : Nat :=
  if q.wrap then
    let base := q.start / q.length * q.length
    base + (q.start - base + position) % q.length
  else (q.start + position) % Config.ringDepth

/-- The coding of a group state in a period-ring entry (section 10.8). -/
def ringStateCode : GroupState → Nat
  | .engaging => 1
  | .locked => 2
  | .slipping => 3
  | .held => 4
  | .undefined | .free | .tripped => 0

/-- A period-ring entry as read, 30 bytes; an empty slot is all 0 (section 10.8, R195). -/
def ringEntryBytes (o : Option RingEntry) : List Byte :=
  match o with
  | none => zeros 30
  | some e =>
    le 1 (ringStateCode e.state + (if e.scaled then 8 else 0) + (if e.limited then 16 else 0)
        + (if e.demandLimited then 32 else 0) + (if e.ramping then 64 else 0))
      ++ le 4 e.seq.toNat ++ le 6 e.at_ ++ leInt 3 (hold (-8388608) 8388607 e.refSpeed) ++ leInt 4 e.accel
      ++ leInt 4 e.force ++ le 4 e.maxPosition ++ le 4 e.maxSpeed

/-- RING READ (R177, R178, R195). -/
def reqRingRead (body : List Byte) (s : State) : State × Reply :=
  match ringReadBody body with
  | none => (s, refuse .badValue)
  | some q =>
    let r := s.rings.get q.group
    let slots := (List.range 8).map fun i => q.slot (8 * q.page + i)
    (s, okReply ([flagByte r.frozen] ++ le 1 r.next ++ le 1 (slots.headD 0)
      ++ le 4 (s.groups.get q.group).periodSeq.toNat
      ++ slots.flatMap fun i => ringEntryBytes (r.slots.getD i none)))

end Sys2Proof.Machine
end

