-- ==== Sys2Proof/Machine/Port.lean ====
section
/-! DEFINITION. The message port (chapter 10): the receiver, the check, the input queue, the taking of a request, the reply on the line, and the port's own requests. -/

namespace Sys2Proof.Machine

/-! ## The check (R181) -/

/-- One bit of the CRC-16 with polynomial 1021h. -/
def crcBit (c : BitVec 16) (bit : Bool) : BitVec 16 :=
  if c.getLsbD 15 != bit then (c <<< 1) ^^^ 0x1021#16 else c <<< 1

/-- One byte enters the CRC, most significant bit first. -/
def crcByte (c : BitVec 16) (b : Byte) : BitVec 16 :=
  [7, 6, 5, 4, 3, 2, 1, 0].foldl (fun c i => crcBit c (b.getLsbD i)) c

/-- The CRC of a list of bytes. -/
def crc16 (bs : List Byte) : BitVec 16 := bs.foldl crcByte 0xFFFF#16

/-- The two CHECK bytes, low byte first. -/
def checkBytes (bs : List Byte) : List Byte := le 2 (crc16 bs).toNat

/-- The bytes of a reply frame on MP_TX (R184). -/
def replyFrame (code tag : Byte) (r : Reply) : List Byte :=
  let covered := le 1 r.body.length ++ [tag, code + 0x80#8, r.status.code] ++ r.body
  [Config.syncByte] ++ covered ++ checkBytes covered

/-- The bytes of a request frame on MP_RX (R180, R181). -/
def requestFrame (f : Frame) : List Byte :=
  let covered := le 1 f.body.length ++ [f.tag, f.code] ++ f.body
  [Config.syncByte] ++ covered ++ checkBytes covered

/-! ## The port's own requests -/

/-- PORT COUNTERS (R188). -/
def reqPortCounters (_body : List Byte) (s : State) : State × Reply :=
  (s.withPort { s.port with checkCount := 0, framingCount := 0 },
    okReply (le 2 s.port.checkCount ++ le 2 s.port.framingCount))

/-- CELL STATUS's reply body (R189, section 10.8); `held` is the preparation when the request was taken. -/
def cellStatusBody (held : Bool) (s : State) : List Byte :=
  [flagByte s.mon.tripOut, flagByte s.mon.attnOut] ++ le 1 s.permit.mask.toNat ++ [present s.permit.due]
    ++ timeBytes s.permit.due ++ s.groups.toList.flatMap (fun x => le 1 (groupStateCode x.state))
    ++ s.links.toList.flatMap (fun l => le 1 (linkStateCode l.state))
    ++ le 1 (bitsToNat (s.settings.toList.map (·.linkEnable)))
    ++ s.scheds.toList.flatMap (fun x => le 1 (scheduleStateCode x.state))
    ++ [flagByte s.mark.armed, flagByte s.mark.valid, flagByte s.cal.busy, flagByte held] ++ zeros 1 ++ le 6 s.clock

/-- CELL STATUS (R189). -/
def reqCellStatus (held : Bool) (_body : List Byte) (s : State) : State × Reply := (s, okReply (cellStatusBody held s))

/-- RESET PREPARE (R190); the taking has cleared the preparation (R191). -/
def reqResetPrepare (_body : List Byte) (s : State) : State × Reply :=
  if s.permit.mask = 0#4 then (s.withPort { s.port with prepared := true }, okReply []) else (s, refuse .state)

/-- RESET EXECUTE (R192); `held` is the preparation when the request was taken. -/
def reqResetExecute (held : Bool) (_body : List Byte) (s : State) : State × Reply :=
  if held then (s, okReply []) else (s, refuse .notArmed)

/-! ## Examining and executing a request (R186) -/

/-- A defined request whose body has the right length, by its own rule. -/
def perform (k : ReqKind) (held : Bool) (body : List Byte) (s : State) : State × Reply :=
  match k with
  | .clockRead => reqClockRead body s
  | .markArm => reqMarkArm body s
  | .markRead => reqMarkRead body s
  | .encoderRead => reqEncoderRead body s
  | .encoderCounters => reqEncoderCounters body s
  | .linkEnable => reqLinkEnable body s
  | .linkRestart => reqLinkRestart body s
  | .linkStatus => reqLinkStatus body s
  | .linkCounters => reqLinkCounters body s
  | .calWrite => reqCalWrite body s
  | .calRead => reqCalRead body s
  | .calLock => reqCalLock body s
  | .calState => reqCalState body s
  | .capabilityRead => reqCapabilityRead body s
  | .stationSet => reqStationSet body s
  | .stationRead => reqStationRead body s
  | .groupDefine => reqGroupDefine body s
  | .groupTune => reqGroupTune body s
  | .groupRead => reqGroupRead body s
  | .engage => reqEngage body s
  | .release => reqRelease body s
  | .disband => reqDisband body s
  | .segmentQueue => reqSegmentQueue body s
  | .segmentFlush => reqSegmentFlush body s
  | .segmentCancel => reqSegmentCancel body s
  | .scheduleRead => reqScheduleRead body s
  | .permitTime => reqPermitTime body s
  | .permitGrant => reqPermitGrant body s
  | .permitRenew => reqPermitRenew body s
  | .permitRead => reqPermitRead body s
  | .filterSet => reqFilterSet body s
  | .sourceEnable => reqSourceEnable body s
  | .flagsRead => reqFlagsRead body s
  | .flagsClear => reqFlagsClear body s
  | .forceSet => reqForceSet body s
  | .noticeMask => reqNoticeMask body s
  | .excursionFetch => reqExcursionFetch body s
  | .windowOpen => reqWindowOpen body s
  | .windowRead => reqWindowRead body s
  | .windowClose => reqWindowClose body s
  | .ringRead => reqRingRead body s
  | .ringFreeze => reqRingFreeze body s
  | .ringUnfreeze => reqRingUnfreeze body s
  | .cellStatus => reqCellStatus held body s
  | .portCounters => reqPortCounters body s
  | .resetPrepare => reqResetPrepare body s
  | .resetExecute => reqResetExecute held body s

/-- The classes of R186, in their order: the code, the length, then the request's own rule. -/
def examine (f : Frame) (held : Bool) (s : State) : State × Reply :=
  match ReqKind.ofCode f.code with
  | none => (s, refuse .unknownCode)
  | some k => if f.body.length = k.bodyLength then perform k held f.body s else (s, refuse .badLength)

/-- The transmitter begins to send a reply (R183): n + 7 bytes of 5 µs. -/
def startReply (f : Frame) (thenReset : Bool) (r : Reply) (s : State) : State :=
  let t : Sending := { code := f.code, tag := f.tag, reply := r,
                       due := s.clock + (r.body.length + 7) * Config.byteTime, thenReset := thenReset }
  s.withPort { s.port with tx := some t }

/-- A reply after which the port reset takes effect: the OK of a RESET EXECUTE (R192). -/
def ordersReset (f : Frame) (r : Reply) : Bool := f.code == ReqKind.resetExecute.code && r.status == .ok

/-- The taking of a request (R183): the preparation is handled (R191), the request examined and executed (R186), and
its reply begun. -/
def takeRequest (f : Frame) (s : State) : State :=
  let held := s.port.prepared
  let p := examine f held (s.withPort { s.port with prepared := false })
  startReply f (ordersReset f p.2) p.2 p.1

/-- The oldest frame is taken where the transmitter is idle (R183). -/
def takeNext (s : State) : State :=
  match s.port.tx, s.port.queue with
  | none, f :: rest => takeRequest f (s.withPort { s.port with queue := rest })
  | _, _ => s

/-- A good frame is handed to the input queue (R182), and is taken at once where the transmitter is idle (R183). -/
def acceptFrame (f : Frame) (s : State) : State :=
  if s.port.queue.length < Config.inputQueueCapacity then
    takeNext (s.withPort { s.port with queue := s.port.queue ++ [f] })
  else s.withPort { s.port with framingCount := satInc s.port.framingCount }

/-! ## The receiver (R179 to R181) -/

/-- Back to HUNTING. -/
def Port.hunt (p : Port) : Port := { p with rx := .hunting, gapDue := none }

/-- The frame in assembly is abandoned and counted (R180). -/
def Port.abandon (p : Port) : Port := { p.hunt with framingCount := satInc p.framingCount }

/-- LEN of the bytes after the sync byte. -/
def lenOf (bytes : List Byte) : Nat := byteAt bytes 0

/-- The frame is complete: LEN, TAG, CODE, the body and two CHECK bytes (R180). -/
def frameComplete (bytes : List Byte) : Bool := bytes.length == lenOf bytes + 5

/-- A complete frame is judged (R181). -/
def judgeFrame (bytes : List Byte) (s : State) : State :=
  let n := lenOf bytes
  let s1 := s.withPort s.port.hunt
  if bytes.drop (n + 3) = checkBytes (bytes.take (n + 3)) then
    acceptFrame { tag := bytes.getD 1 0#8, code := bytes.getD 2 0#8, body := (bytes.drop 3).take n } s1
  else
    (s1.withPort { s1.port with checkCount := satInc s1.port.checkCount }).withMon s1.mon.latchPortCheck

/-- The sync byte, taken in HUNTING, starts a frame (R179). The gap timer stays stopped: it starts after each byte taken
in ASSEMBLING, the first of which is LEN (R180). -/
def startFrame (s : State) : State := s.withPort { s.port with rx := .assembling [], gapDue := none }

/-- A byte received on MP_RX, or a line error (R179, R180). -/
def receiveByte (b : Byte) (lineError : Bool) (s : State) : State :=
  match s.port.rx with
  | .hunting => if !lineError && b == Config.syncByte then startFrame s else s
  | .assembling bytes =>
    if lineError then s.withPort s.port.abandon
    else
      let all := bytes ++ [b]
      if Config.maxBody < lenOf all then s.withPort s.port.abandon
      else if frameComplete all then judgeFrame all s
      else s.withPort { s.port with rx := .assembling all, gapDue := some (s.clock + Config.gapTime) }

/-- MP_BYTE_RECEIVED (R180). -/
def execMpByteReceived (b : Byte) (lineError : Bool) (s : State) : Answer State := done (receiveByte b lineError s)

/-- The receiver waits for the second CHECK byte of its frame. -/
def Port.awaitsLast (p : Port) : Bool :=
  match p.rx with
  | .hunting => false
  | .assembling bytes => bytes.length == lenOf bytes + 4

/-- MP_FRAME_COMPLETE (R181): the second CHECK byte of the frame in assembly is received (log 5); where no frame waits
for it, the event does not occur. -/
def execMpFrameComplete (check2 : Byte) (s : State) : Answer State :=
  done (if s.port.awaitsLast then receiveByte check2 false s else s)

/-- GAP_TIMER_EXPIRY (R180). -/
def execGapTimerExpiry (s : State) : Answer State :=
  done (if dueAt s.clock s.port.gapDue then s.withPort s.port.abandon else s)

/-! ## The end of a reply, and the port reset (R183, R192) -/

/-- The last byte of the reply being sent has been sent. -/
def Port.replyDone (p : Port) (now : CellTime) : Bool := dueAt now (p.tx.map (·.due))

/-- The reply being sent is the OK of a RESET EXECUTE (R192). -/
def Port.resetOrdered (p : Port) : Bool :=
  match p.tx with
  | some t => t.thenReset
  | none => false

/-- The end of a reply (R183): the port reset where it was ordered (R192), else the transmitter is idle and the next
request is taken. -/
def endReply (s : State) : State :=
  if s.port.resetOrdered then portReset s else takeNext (s.withPort { s.port with tx := none })

/-- REPLY_SENT (R183). -/
def execReplySent (s : State) : Answer State := done (if s.port.replyDone s.clock then endReply s else s)

/-- PORT_RESET (R192): at the end of the reply to an accepted RESET EXECUTE; else the event does not occur (log 3). -/
def execPortReset (s : State) : Answer State :=
  done (if s.port.resetOrdered && s.port.replyDone s.clock then portReset s else s)

/-- COLD_RESET (R1, R162), with the levels the lines have at its end. -/
def execColdReset (lines : LineLevels) (s : State) : Answer State := done (coldReset lines s)

end Sys2Proof.Machine
end

