-- ==== Sys2Proof/Machine/Requests.lean ====
section
/-! DEFINITION. The request commands: a good frame with the request's code, a TAG and a BODY reaches the port (R182). It joins the input queue and is taken at once where the transmitter is idle (R183); the effect of the request itself stands in the file of its block, and `perform` finds it. -/

namespace Sys2Proof.Machine

/-- A good frame reaches the port. -/
def submit (code tag : Byte) (body : List Byte) (s : State) : Answer State :=
  done (acceptFrame { code := code, tag := tag, body := body } s)

/-- UNASSIGNED_CODE (R186): answered with UNKNOWN_CODE when taken. -/
def execUnassignedCode (code tag : Byte) (body : List Byte) (s : State) : Answer State := submit code tag body s

/-- CLOCK_READ (R2): see `reqClockRead`. -/
def execClockRead (tag : Byte) (body : List Byte) (s : State) : Answer State := submit ReqKind.clockRead.code tag body s

/-- MARK_ARM (R5): see `reqMarkArm`. -/
def execMarkArm (tag : Byte) (body : List Byte) (s : State) : Answer State := submit ReqKind.markArm.code tag body s

/-- MARK_READ (R6): see `reqMarkRead`. -/
def execMarkRead (tag : Byte) (body : List Byte) (s : State) : Answer State := submit ReqKind.markRead.code tag body s

/-- ENCODER_READ (R20): see `reqEncoderRead`. -/
def execEncoderRead (tag : Byte) (body : List Byte) (s : State) : Answer State := submit ReqKind.encoderRead.code tag body s

/-- ENCODER_COUNTERS (R21): see `reqEncoderCounters`. -/
def execEncoderCounters (tag : Byte) (body : List Byte) (s : State) : Answer State := submit ReqKind.encoderCounters.code tag body s

/-- LINK_ENABLE (R24): see `reqLinkEnable`. -/
def execLinkEnable (tag : Byte) (body : List Byte) (s : State) : Answer State := submit ReqKind.linkEnable.code tag body s

/-- LINK_RESTART (R25): see `reqLinkRestart`. -/
def execLinkRestart (tag : Byte) (body : List Byte) (s : State) : Answer State := submit ReqKind.linkRestart.code tag body s

/-- LINK_STATUS (R40): see `reqLinkStatus`. -/
def execLinkStatus (tag : Byte) (body : List Byte) (s : State) : Answer State := submit ReqKind.linkStatus.code tag body s

/-- LINK_COUNTERS (R41): see `reqLinkCounters`. -/
def execLinkCounters (tag : Byte) (body : List Byte) (s : State) : Answer State := submit ReqKind.linkCounters.code tag body s

/-- CAL_WRITE (R46): see `reqCalWrite`. -/
def execCalWrite (tag : Byte) (body : List Byte) (s : State) : Answer State := submit ReqKind.calWrite.code tag body s

/-- CAL_READ (R52): see `reqCalRead`. -/
def execCalRead (tag : Byte) (body : List Byte) (s : State) : Answer State := submit ReqKind.calRead.code tag body s

/-- CAL_LOCK (R50): see `reqCalLock`. -/
def execCalLock (tag : Byte) (body : List Byte) (s : State) : Answer State := submit ReqKind.calLock.code tag body s

/-- CAL_STATE (R53): see `reqCalState`. -/
def execCalState (tag : Byte) (body : List Byte) (s : State) : Answer State := submit ReqKind.calState.code tag body s

/-- CAPABILITY_READ (R54): see `reqCapabilityRead`. -/
def execCapabilityRead (tag : Byte) (body : List Byte) (s : State) : Answer State := submit ReqKind.capabilityRead.code tag body s

/-- STATION_SET (R56): see `reqStationSet`. -/
def execStationSet (tag : Byte) (body : List Byte) (s : State) : Answer State := submit ReqKind.stationSet.code tag body s

/-- STATION_READ (R58): see `reqStationRead`. -/
def execStationRead (tag : Byte) (body : List Byte) (s : State) : Answer State := submit ReqKind.stationRead.code tag body s

/-- GROUP_DEFINE (R66): see `reqGroupDefine`. -/
def execGroupDefine (tag : Byte) (body : List Byte) (s : State) : Answer State := submit ReqKind.groupDefine.code tag body s

/-- GROUP_TUNE (R68): see `reqGroupTune`. -/
def execGroupTune (tag : Byte) (body : List Byte) (s : State) : Answer State := submit ReqKind.groupTune.code tag body s

/-- GROUP_READ (R69): see `reqGroupRead`. -/
def execGroupRead (tag : Byte) (body : List Byte) (s : State) : Answer State := submit ReqKind.groupRead.code tag body s

/-- ENGAGE (R70): see `reqEngage`. -/
def execEngage (tag : Byte) (body : List Byte) (s : State) : Answer State := submit ReqKind.engage.code tag body s

/-- RELEASE (R74): see `reqRelease`. -/
def execRelease (tag : Byte) (body : List Byte) (s : State) : Answer State := submit ReqKind.release.code tag body s

/-- DISBAND (R75): see `reqDisband`. -/
def execDisband (tag : Byte) (body : List Byte) (s : State) : Answer State := submit ReqKind.disband.code tag body s

/-- SEGMENT_QUEUE (R111): see `reqSegmentQueue`. -/
def execSegmentQueue (tag : Byte) (body : List Byte) (s : State) : Answer State := submit ReqKind.segmentQueue.code tag body s

/-- SEGMENT_FLUSH (R125): see `reqSegmentFlush`. -/
def execSegmentFlush (tag : Byte) (body : List Byte) (s : State) : Answer State := submit ReqKind.segmentFlush.code tag body s

/-- SEGMENT_CANCEL (R126): see `reqSegmentCancel`. -/
def execSegmentCancel (tag : Byte) (body : List Byte) (s : State) : Answer State := submit ReqKind.segmentCancel.code tag body s

/-- SCHEDULE_READ (R128): see `reqScheduleRead`. -/
def execScheduleRead (tag : Byte) (body : List Byte) (s : State) : Answer State := submit ReqKind.scheduleRead.code tag body s

/-- PERMIT_TIME (R131): see `reqPermitTime`. -/
def execPermitTime (tag : Byte) (body : List Byte) (s : State) : Answer State := submit ReqKind.permitTime.code tag body s

/-- PERMIT_GRANT (R133): see `reqPermitGrant`. -/
def execPermitGrant (tag : Byte) (body : List Byte) (s : State) : Answer State := submit ReqKind.permitGrant.code tag body s

/-- PERMIT_RENEW (R135): see `reqPermitRenew`. -/
def execPermitRenew (tag : Byte) (body : List Byte) (s : State) : Answer State := submit ReqKind.permitRenew.code tag body s

/-- PERMIT_READ (R140): see `reqPermitRead`. -/
def execPermitRead (tag : Byte) (body : List Byte) (s : State) : Answer State := submit ReqKind.permitRead.code tag body s

/-- FILTER_SET (R148): see `reqFilterSet`. -/
def execFilterSet (tag : Byte) (body : List Byte) (s : State) : Answer State := submit ReqKind.filterSet.code tag body s

/-- SOURCE_ENABLE (R149): see `reqSourceEnable`. -/
def execSourceEnable (tag : Byte) (body : List Byte) (s : State) : Answer State := submit ReqKind.sourceEnable.code tag body s

/-- FLAGS_READ (R161): see `reqFlagsRead`. -/
def execFlagsRead (tag : Byte) (body : List Byte) (s : State) : Answer State := submit ReqKind.flagsRead.code tag body s

/-- FLAGS_CLEAR (R153): see `reqFlagsClear`. -/
def execFlagsClear (tag : Byte) (body : List Byte) (s : State) : Answer State := submit ReqKind.flagsClear.code tag body s

/-- FORCE_SET (R151): see `reqForceSet`. -/
def execForceSet (tag : Byte) (body : List Byte) (s : State) : Answer State := submit ReqKind.forceSet.code tag body s

/-- NOTICE_MASK (R160): see `reqNoticeMask`. -/
def execNoticeMask (tag : Byte) (body : List Byte) (s : State) : Answer State := submit ReqKind.noticeMask.code tag body s

/-- EXCURSION_FETCH (R168): see `reqExcursionFetch`. -/
def execExcursionFetch (tag : Byte) (body : List Byte) (s : State) : Answer State := submit ReqKind.excursionFetch.code tag body s

/-- WINDOW_OPEN (R171): see `reqWindowOpen`. -/
def execWindowOpen (tag : Byte) (body : List Byte) (s : State) : Answer State := submit ReqKind.windowOpen.code tag body s

/-- WINDOW_READ (R174): see `reqWindowRead`. -/
def execWindowRead (tag : Byte) (body : List Byte) (s : State) : Answer State := submit ReqKind.windowRead.code tag body s

/-- WINDOW_CLOSE (R174): see `reqWindowClose`. -/
def execWindowClose (tag : Byte) (body : List Byte) (s : State) : Answer State := submit ReqKind.windowClose.code tag body s

/-- RING_READ (R177): see `reqRingRead`. -/
def execRingRead (tag : Byte) (body : List Byte) (s : State) : Answer State := submit ReqKind.ringRead.code tag body s

/-- RING_FREEZE (R176): see `reqRingFreeze`. -/
def execRingFreeze (tag : Byte) (body : List Byte) (s : State) : Answer State := submit ReqKind.ringFreeze.code tag body s

/-- RING_UNFREEZE (R176): see `reqRingUnfreeze`. -/
def execRingUnfreeze (tag : Byte) (body : List Byte) (s : State) : Answer State := submit ReqKind.ringUnfreeze.code tag body s

/-- CELL_STATUS (R189): see `reqCellStatus`. -/
def execCellStatus (tag : Byte) (body : List Byte) (s : State) : Answer State := submit ReqKind.cellStatus.code tag body s

/-- PORT_COUNTERS (R188): see `reqPortCounters`. -/
def execPortCounters (tag : Byte) (body : List Byte) (s : State) : Answer State := submit ReqKind.portCounters.code tag body s

/-- RESET_PREPARE (R190): see `reqResetPrepare`. -/
def execResetPrepare (tag : Byte) (body : List Byte) (s : State) : Answer State := submit ReqKind.resetPrepare.code tag body s

/-- RESET_EXECUTE (R192): see `reqResetExecute`. -/
def execResetExecute (tag : Byte) (body : List Byte) (s : State) : Answer State := submit ReqKind.resetExecute.code tag body s

end Sys2Proof.Machine
end

