-- ==== Sys2Proof/Machine/Dispatch.lean ====
section
/-! DEFINITION. One arm per command: each calls the command's meaning. -/

namespace Sys2Proof.Machine

def exec (i : Instr) (s : State) : Host.Outcome State Fault Refusal :=
  match i with
  | .coldReset lines => Sys2Proof.Machine.execColdReset lines s
  | .portReset => Sys2Proof.Machine.execPortReset s
  | .markInEdge => Sys2Proof.Machine.execMarkInEdge s
  | .encoderTransition n a b frac => Sys2Proof.Machine.execEncoderTransition n a b frac s
  | .indexEvent n => Sys2Proof.Machine.execIndexEvent n s
  | .estimationIntervalExpiry n => Sys2Proof.Machine.execEstimationIntervalExpiry n s
  | .dlkFrameReceived n f => Sys2Proof.Machine.execDlkFrameReceived n f s
  | .quietTimerExpiry n => Sys2Proof.Machine.execQuietTimerExpiry n s
  | .offerTimerExpiry n => Sys2Proof.Machine.execOfferTimerExpiry n s
  | .negotiationTimerExpiry n => Sys2Proof.Machine.execNegotiationTimerExpiry n s
  | .updateTimerExpiry n => Sys2Proof.Machine.execUpdateTimerExpiry n s
  | .calWriteCompletion => Sys2Proof.Machine.execCalWriteCompletion s
  | .calLockCompletion => Sys2Proof.Machine.execCalLockCompletion s
  | .periodTimerExpiry g => Sys2Proof.Machine.execPeriodTimerExpiry g s
  | .engageTimerExpiry g => Sys2Proof.Machine.execEngageTimerExpiry g s
  | .segmentActivation => Sys2Proof.Machine.execSegmentActivation s
  | .blendStep g => Sys2Proof.Machine.execBlendStep g s
  | .durationEnd g => Sys2Proof.Machine.execDurationEnd g s
  | .permitTimerExpiry => Sys2Proof.Machine.execPermitTimerExpiry s
  | .filterTimerExpiry k => Sys2Proof.Machine.execFilterTimerExpiry k s
  | .tripInChange level => Sys2Proof.Machine.execTripInChange level s
  | .estopInChange asserted => Sys2Proof.Machine.execEstopInChange asserted s
  | .mpFrameComplete check2 => Sys2Proof.Machine.execMpFrameComplete check2 s
  | .gapTimerExpiry => Sys2Proof.Machine.execGapTimerExpiry s
  | .replySent => Sys2Proof.Machine.execReplySent s
  | .unassignedCode code tag body => Sys2Proof.Machine.execUnassignedCode code tag body s
  | .clockRead tag body => Sys2Proof.Machine.execClockRead tag body s
  | .markArm tag body => Sys2Proof.Machine.execMarkArm tag body s
  | .markRead tag body => Sys2Proof.Machine.execMarkRead tag body s
  | .encoderRead tag body => Sys2Proof.Machine.execEncoderRead tag body s
  | .encoderCounters tag body => Sys2Proof.Machine.execEncoderCounters tag body s
  | .linkEnable tag body => Sys2Proof.Machine.execLinkEnable tag body s
  | .linkRestart tag body => Sys2Proof.Machine.execLinkRestart tag body s
  | .linkStatus tag body => Sys2Proof.Machine.execLinkStatus tag body s
  | .linkCounters tag body => Sys2Proof.Machine.execLinkCounters tag body s
  | .calWrite tag body => Sys2Proof.Machine.execCalWrite tag body s
  | .calRead tag body => Sys2Proof.Machine.execCalRead tag body s
  | .calLock tag body => Sys2Proof.Machine.execCalLock tag body s
  | .calState tag body => Sys2Proof.Machine.execCalState tag body s
  | .capabilityRead tag body => Sys2Proof.Machine.execCapabilityRead tag body s
  | .stationSet tag body => Sys2Proof.Machine.execStationSet tag body s
  | .stationRead tag body => Sys2Proof.Machine.execStationRead tag body s
  | .groupDefine tag body => Sys2Proof.Machine.execGroupDefine tag body s
  | .groupTune tag body => Sys2Proof.Machine.execGroupTune tag body s
  | .groupRead tag body => Sys2Proof.Machine.execGroupRead tag body s
  | .engage tag body => Sys2Proof.Machine.execEngage tag body s
  | .release tag body => Sys2Proof.Machine.execRelease tag body s
  | .disband tag body => Sys2Proof.Machine.execDisband tag body s
  | .segmentQueue tag body => Sys2Proof.Machine.execSegmentQueue tag body s
  | .segmentFlush tag body => Sys2Proof.Machine.execSegmentFlush tag body s
  | .segmentCancel tag body => Sys2Proof.Machine.execSegmentCancel tag body s
  | .scheduleRead tag body => Sys2Proof.Machine.execScheduleRead tag body s
  | .permitTime tag body => Sys2Proof.Machine.execPermitTime tag body s
  | .permitGrant tag body => Sys2Proof.Machine.execPermitGrant tag body s
  | .permitRenew tag body => Sys2Proof.Machine.execPermitRenew tag body s
  | .permitRead tag body => Sys2Proof.Machine.execPermitRead tag body s
  | .filterSet tag body => Sys2Proof.Machine.execFilterSet tag body s
  | .sourceEnable tag body => Sys2Proof.Machine.execSourceEnable tag body s
  | .flagsRead tag body => Sys2Proof.Machine.execFlagsRead tag body s
  | .flagsClear tag body => Sys2Proof.Machine.execFlagsClear tag body s
  | .forceSet tag body => Sys2Proof.Machine.execForceSet tag body s
  | .noticeMask tag body => Sys2Proof.Machine.execNoticeMask tag body s
  | .excursionFetch tag body => Sys2Proof.Machine.execExcursionFetch tag body s
  | .windowOpen tag body => Sys2Proof.Machine.execWindowOpen tag body s
  | .windowRead tag body => Sys2Proof.Machine.execWindowRead tag body s
  | .windowClose tag body => Sys2Proof.Machine.execWindowClose tag body s
  | .ringRead tag body => Sys2Proof.Machine.execRingRead tag body s
  | .ringFreeze tag body => Sys2Proof.Machine.execRingFreeze tag body s
  | .ringUnfreeze tag body => Sys2Proof.Machine.execRingUnfreeze tag body s
  | .cellStatus tag body => Sys2Proof.Machine.execCellStatus tag body s
  | .portCounters tag body => Sys2Proof.Machine.execPortCounters tag body s
  | .resetPrepare tag body => Sys2Proof.Machine.execResetPrepare tag body s
  | .resetExecute tag body => Sys2Proof.Machine.execResetExecute tag body s
  | .mpByteReceived b lineError => Sys2Proof.Machine.execMpByteReceived b lineError s

end Sys2Proof.Machine
end

