-- ==== Sys2Proof/Machine/OwnEvents.lean ====
section
/-! DEFINITION. The part's own events that are due, and the tick of the cell clock: what `step` takes where no command waits (log 1, log 2). -/

namespace Sys2Proof.Machine

/-- The events of a station's unit and link that are due. -/
def stationEvents (s : State) (n : Station) : List (Bool × Instr) :=
  let l := s.links.get n
  [(decide ((s.units.get n).estimateDue ≤ s.clock), .estimationIntervalExpiry n),
   (l.state == .quiet && dueAt s.clock l.quietDue, .quietTimerExpiry n),
   (l.state.settling && dueAt s.clock l.offerDue, .offerTimerExpiry n),
   (l.state.settling && dueAt s.clock l.negotiationDue, .negotiationTimerExpiry n),
   (l.state == .up && dueAt s.clock l.updateDue, .updateTimerExpiry n)]

/-- The events of a group and its schedule that are due. -/
def groupEvents (s : State) (g : GroupId) : List (Bool × Instr) :=
  let x := s.groups.get g
  [(x.state.running && dueAt s.clock x.periodDue, .periodTimerExpiry g),
   (x.state == .engaging && dueAt s.clock x.engageDue, .engageTimerExpiry g),
   (dueAt s.clock (s.scheds.get g).blendDue, .blendStep g),
   ((s.scheds.get g).endDue s.clock, .durationEnd g)]

/-- The head of the resolved queue has reached its start (R116). -/
def headDue (s : State) : Bool := dueAt s.clock (s.road.resolved.head?.map (·.due))

/-- The events of the parts that stand once. -/
def singleEvents (s : State) : List (Bool × Instr) :=
  [(dueAt s.clock (s.cal.op.map (·.due)) && (match s.cal.op with
      | some o => (match o.kind with | .write _ => true | .lock => false)
      | none => false), .calWriteCompletion),
   (dueAt s.clock (s.cal.op.map (·.due)) && (match s.cal.op with
      | some o => (match o.kind with | .write _ => false | .lock => true)
      | none => false), .calLockCompletion),
   (headDue s, .segmentActivation),
   (dueAt s.clock s.permit.due, .permitTimerExpiry),
   (dueAt s.clock s.port.gapDue, .gapTimerExpiry),
   (s.port.replyDone s.clock, .replySent)]

/-- The expiries of filter timers that are due. -/
def filterEvents (s : State) : List (Bool × Instr) :=
  filteredIds.map fun i => ((s.mon.flags.get i).expiryDue s.clock, .filterTimerExpiry i)

/-- The part's own events that are due at this cell time. -/
def dueEvents (s : State) : List Instr :=
  ((allFour.flatMap (stationEvents s) ++ allFour.flatMap (groupEvents s) ++ singleEvents s ++ filterEvents s).filter
    (·.1)).map (·.2)

/-- The own event the part takes next, where one is due: the only one, or one of several by a free value (log 2). -/
def nextOwnEvent (s : State) : Option (Instr × State) :=
  match dueEvents s with
  | [] => none
  | [i] => some (i, s)
  | i :: rest => some ((i :: rest).getD (Config.freeChoice s.freeCount % (rest.length + 1)) i, s.withFree (s.freeCount + 1))

/-- One µs passes (R1); the count has 48 bits. -/
def tick (s : State) : State := s.withClock ((s.clock + 1) % 2 ^ 48)

/-- A command put in front of the queue. -/
def State.withFront (s : State) (i : Instr) : State := s.withPending (i :: s.pending)

end Sys2Proof.Machine
end

