-- ==== Sys2Proof/Machine/Step.lean ====
section
/-! DEFINITION. One step: the command at the front of the queue; where none waits, an own event that is due; where none is due, one tick of the cell clock (log 1). -/

namespace Sys2Proof.Machine

def step (s : State) : Host.Outcome State Fault Refusal :=
  match s.pending with
  | c :: rest => exec c (s.withPending rest)
  | [] =>
    match nextOwnEvent s with
    | some (i, t) => exec i t
    | none => .next (tick s)

/-- The command a word spells is put at the front of the queue; no row gives bits, so no word spells one. -/
def State.withFetchWord (s : State) (nbits w : Nat) : State :=
  match decodeTableWord nbits w with
  | some i => s.withFront i
  | none => s

end Sys2Proof.Machine
end

