-- ==== Sys2Proof/Safety.lean ====
section
/-! DEFINITION. The predicates claims are stated with: a state at rest between events, the idle port, the reply a taken request begins, the request bodies as section 10.8 lays them out, and the invariants of the blocks. -/

namespace Sys2Proof

/-- The row of a request, with a TAG and a BODY. -/
def ReqKind.row (k : ReqKind) (tag : Byte) (body : List Byte) : Instr :=
  match k with
  | .clockRead => .clockRead tag body
  | .markArm => .markArm tag body
  | .markRead => .markRead tag body
  | .encoderRead => .encoderRead tag body
  | .encoderCounters => .encoderCounters tag body
  | .linkEnable => .linkEnable tag body
  | .linkRestart => .linkRestart tag body
  | .linkStatus => .linkStatus tag body
  | .linkCounters => .linkCounters tag body
  | .calWrite => .calWrite tag body
  | .calRead => .calRead tag body
  | .calLock => .calLock tag body
  | .calState => .calState tag body
  | .capabilityRead => .capabilityRead tag body
  | .stationSet => .stationSet tag body
  | .stationRead => .stationRead tag body
  | .groupDefine => .groupDefine tag body
  | .groupTune => .groupTune tag body
  | .groupRead => .groupRead tag body
  | .engage => .engage tag body
  | .release => .release tag body
  | .disband => .disband tag body
  | .segmentQueue => .segmentQueue tag body
  | .segmentFlush => .segmentFlush tag body
  | .segmentCancel => .segmentCancel tag body
  | .scheduleRead => .scheduleRead tag body
  | .permitTime => .permitTime tag body
  | .permitGrant => .permitGrant tag body
  | .permitRenew => .permitRenew tag body
  | .permitRead => .permitRead tag body
  | .filterSet => .filterSet tag body
  | .sourceEnable => .sourceEnable tag body
  | .flagsRead => .flagsRead tag body
  | .flagsClear => .flagsClear tag body
  | .forceSet => .forceSet tag body
  | .noticeMask => .noticeMask tag body
  | .excursionFetch => .excursionFetch tag body
  | .windowOpen => .windowOpen tag body
  | .windowRead => .windowRead tag body
  | .windowClose => .windowClose tag body
  | .ringRead => .ringRead tag body
  | .ringFreeze => .ringFreeze tag body
  | .ringUnfreeze => .ringUnfreeze tag body
  | .cellStatus => .cellStatus tag body
  | .portCounters => .portCounters tag body
  | .resetPrepare => .resetPrepare tag body
  | .resetExecute => .resetExecute tag body

/-- The codes of the filtered kinds (section 10.8). -/
def FilterKind.number : FilterKind → Nat
  | .overspeed => 0
  | .encoder => 1
  | .link => 2
  | .mismatch => 3
  | .sync => 4
  | .tripIn => 5

/-- The rows that stand for the end of a timer, of a wait or of a reply, and for an activation. -/
def Instr.timed : Instr → Bool
  | .portReset | .estimationIntervalExpiry _ | .quietTimerExpiry _ | .offerTimerExpiry _ | .negotiationTimerExpiry _
  | .updateTimerExpiry _ | .calWriteCompletion | .calLockCompletion | .periodTimerExpiry _ | .engageTimerExpiry _
  | .segmentActivation | .blendStep _ | .durationEnd _ | .permitTimerExpiry | .filterTimerExpiry _ | .gapTimerExpiry
  | .replySent => true
  | _ => false

end Sys2Proof

namespace Sys2Proof.Machine

/-! ## Between events -/

/-- Every filtered flag holds the level of its condition (R143), and TRIP_OUT and ATTN_OUT hold the levels the flags
give (R155, R159): what every event leaves. -/
abbrev Settled (s : State) : Prop :=
  (∀ i ∈ filteredIds, (s.mon.flags.get i).level = s.condition i)
    ∧ s.mon.tripOut = s.mon.tripSet ∧ s.mon.attnOut = s.mon.attnLevel

/-- The transmitter is idle and no frame waits: the next good frame is taken at once (R183). -/
abbrev PortIdle (s : State) : Prop := s.port.tx = none ∧ s.port.queue = []

/-- A taken request clears the preparation (R191) and its reply begins; n body bytes take (n + 7) × 5 µs (R183). -/
def State.replied (s : State) (code tag : Byte) (st : Status) (body : List Byte) : State :=
  { s with port := { s.port with
      prepared := false,
      tx := some { code := code, tag := tag, reply := { status := st, body := body },
                   due := s.clock + (body.length + 7) * 5, thenReset := false } } }

/-- OK with an empty body (R194). -/
def State.repliedOk (s : State) (code tag : Byte) : State := s.replied code tag .ok []

/-! ## Request bodies (section 10.8) -/

def stationForm (n : Station) : List Byte := [BitVec.ofNat 8 n.val]

/-- Byte 0 a group, alone in GROUP READ. -/
def groupReadForm (g : GroupId) : List Byte := [BitVec.ofNat 8 g.val]

def groupForm (g : GroupId) : List Byte := [BitVec.ofNat 8 g.val, 0#8]

def linkEnableForm (n : Station) (on : Bool) : List Byte := [BitVec.ofNat 8 n.val, flagByte on]

def calWriteForm (n : Station) (k : CalConstants) : List Byte :=
  [BitVec.ofNat 8 n.val, 0#8] ++ le 4 k.circumference ++ le 2 k.mass ++ le 2 k.lines

/-- The nine settings that STATION SET gives; its link enable is not carried. -/
def stationSetForm (n : Station) (t : Settings) : List Byte :=
  [BitVec.ofNat 8 n.val] ++ le 1 t.decode ++ [flagByte t.invert, flagByte t.checkIndex] ++ le 1 t.tolerance
    ++ le 1 t.classes.toNat ++ [flagByte t.autoRenegotiate, 0#8] ++ le 4 t.overspeedLimit ++ le 2 t.forceLimit
    ++ le 2 t.mismatchLimit

/-- The five tuned items in the order of GROUP DEFINE and GROUP TUNE. -/
def tuningForm (t : Tuning) : List Byte :=
  le 2 t.kp ++ le 2 t.kd ++ le 2 t.correctionLimit ++ le 4 t.lockPosition ++ le 4 t.tripPosition
    ++ le 2 t.lockSpeed ++ le 2 t.tripSpeed

def groupTuneForm (g : GroupId) (t : Tuning) : List Byte := [BitVec.ofNat 8 g.val, 0#8] ++ tuningForm t

/-- Four fields, those beyond the list 0. -/
def fourFields (enc : Nat → List Byte) (xs : List Nat) : List Byte :=
  enc (xs.getD 0 0) ++ enc (xs.getD 1 0) ++ enc (xs.getD 2 0) ++ enc (xs.getD 3 0)

def groupDefineForm (g : GroupId) (d : GroupDef) : List Byte :=
  [BitVec.ofNat 8 g.val, (match d.kind with | .linked => 0#8 | .averaged => 1#8)] ++ le 1 d.members.length ++ [0#8]
    ++ fourFields (le 1) (d.members.map (·.station.val)) ++ fourFields (le 2) (d.members.map (·.share))
    ++ le 2 d.period ++ tuningForm d.tuning ++ le 2 d.ramp ++ le 2 d.engageTimeout

/-- A segment, with indications whether grade force and ramp time are present; an absent one is 0 in `x` too. -/
def segmentForm (x : Segment) (gradePresent rampPresent : Bool) : List Byte :=
  [BitVec.ofNat 8 x.group.val, (match x.basis with | .absolute => 0#8 | .mark => 1#8), present x.duration,
    flagByte gradePresent, flagByte rampPresent]
    ++ zeros 3 ++ le 8 x.start ++ le 4 (x.duration.getD 0) ++ leInt 4 x.coeffs.a ++ leInt 4 x.coeffs.b
    ++ leInt 4 x.coeffs.c ++ leInt 2 x.coeffs.mass ++ leInt 2 x.coeffs.grade ++ le 2 x.ramp ++ le 2 x.tag

def capabilityForm (offset length : Nat) : List Byte := le 1 offset ++ le 1 length

def tagForm (t : Nat) : List Byte := le 2 t ++ zeros 2

def permitTimeForm (t : Nat) : List Byte := le 2 t ++ zeros 2

def maskForm (m : BitVec 4) : List Byte := le 1 m.toNat ++ zeros 1

def filterSetForm (k : FilterKind) (t : Nat) : List Byte := le 1 k.number ++ zeros 1 ++ le 2 t

def sourceEnableForm (k : FilterKind) (on : Bool) : List Byte := le 1 k.number ++ [flagByte on] ++ zeros 2

def flagSetForm (w : BitVec 34) : List Byte := le 8 w.toNat

def forceSetForm (trip alert : Bool) : List Byte := [flagByte trip, flagByte alert] ++ zeros 2

def fetchForm (n : Nat) : List Byte := le 1 n ++ zeros 1

def windowOpenForm (g : GroupId) (limit : Nat) : List Byte := [BitVec.ofNat 8 g.val, 0#8] ++ le 2 limit

def ringReadForm (g : GroupId) (start length : Nat) (wrap : Bool) (page : Nat) : List Byte :=
  [BitVec.ofNat 8 g.val] ++ le 1 start ++ le 1 length ++ [flagByte wrap] ++ le 1 page ++ zeros 1

/-! ## Ranges the rules give -/

/-- R44. -/
abbrev CalConstants.InRange (k : CalConstants) : Prop :=
  1000000 ≤ k.circumference ∧ k.circumference ≤ 6000000 ∧ 50 ≤ k.mass ∧ k.mass ≤ 3000
    ∧ 256 ≤ k.lines ∧ k.lines ≤ 65535

/-- R55. -/
abbrev Settings.InRange (t : Settings) : Prop :=
  (t.decode = 1 ∨ t.decode = 2 ∨ t.decode = 4) ∧ t.tolerance ≤ 15 ∧ 1 ≤ t.overspeedLimit ∧ t.overspeedLimit ≤ 75000
    ∧ 100 ≤ t.forceLimit ∧ t.forceLimit ≤ 20000 ∧ 50 ≤ t.mismatchLimit ∧ t.mismatchLimit ≤ 5000 ∧ t.classes ≠ 0#4

/-- R59: the tuned items and the order of the windows. -/
abbrev Tuning.InRange (t : Tuning) : Prop :=
  t.kp ≤ 2000 ∧ t.kd ≤ 200 ∧ t.correctionLimit ≤ 10000
    ∧ 1 ≤ t.lockPosition ∧ t.lockPosition < t.tripPosition ∧ t.tripPosition ≤ 2000000
    ∧ 1 ≤ t.lockSpeed ∧ t.lockSpeed < t.tripSpeed ∧ t.tripSpeed ≤ 20000

/-- R59: a whole definition. -/
abbrev GroupDef.InRange (d : GroupDef) : Prop :=
  2 ≤ d.members.length ∧ d.members.length ≤ 4 ∧ (d.members.map (·.station)).Nodup
    ∧ (d.members.map (·.share)).sum = 1000
    ∧ (d.period = 250 ∨ d.period = 500 ∨ d.period = 1000 ∨ d.period = 2000)
    ∧ d.tuning.InRange ∧ d.ramp ≤ 2000 ∧ 100 ≤ d.engageTimeout ∧ d.engageTimeout ≤ 10000

/-- R109. -/
abbrev Segment.InRange (x : Segment) : Prop :=
  (x.basis = .absolute → x.start < 2 ^ 48) ∧ (x.basis = .mark → x.start < 2 ^ 32)
    ∧ (∀ d ∈ x.duration.toList, 1 ≤ d ∧ d ≤ 3600000)
    ∧ 0 ≤ x.coeffs.a ∧ x.coeffs.a ≤ 100000 ∧ -50000 ≤ x.coeffs.b ∧ x.coeffs.b ≤ 50000
    ∧ 0 ≤ x.coeffs.c ∧ x.coeffs.c ≤ 100000 ∧ 450 ≤ x.coeffs.mass ∧ x.coeffs.mass ≤ 5500
    ∧ -10000 ≤ x.coeffs.grade ∧ x.coeffs.grade ≤ 10000 ∧ x.ramp ≤ 5000 ∧ x.tag < 65536

/-- R177: start slot, length and page of RING READ. -/
abbrev RingRange (start length page : Nat) : Prop :=
  start ≤ 31 ∧ (length = 8 ∨ length = 16 ∨ length = 32) ∧ 8 * page < length

/-- The body of a request is of a valid form (R186, R194 and the request's own rule): every field in its range, every
reserved byte and bit 0. -/
def ValidBody (k : ReqKind) (b : List Byte) : Prop :=
  match k with
  | .clockRead | .markArm | .markRead | .calState | .scheduleRead | .permitRead | .flagsRead | .cellStatus
  | .portCounters | .resetPrepare | .resetExecute => b = []
  | .encoderRead | .encoderCounters | .linkRestart | .linkStatus | .linkCounters | .calRead | .calLock
  | .stationRead => ∃ n : Station, b = stationForm n
  | .groupRead => ∃ g : GroupId, b = groupReadForm g
  | .engage | .release | .disband | .segmentFlush | .windowRead | .windowClose | .ringFreeze | .ringUnfreeze =>
    ∃ g : GroupId, b = groupForm g
  | .linkEnable => ∃ (n : Station) (on : Bool), b = linkEnableForm n on
  | .calWrite => ∃ (n : Station) (c : CalConstants), c.InRange ∧ b = calWriteForm n c
  | .capabilityRead => ∃ o l : Nat, o ≤ 9 ∧ 1 ≤ l ∧ l ≤ 10 ∧ o + l ≤ 10 ∧ b = capabilityForm o l
  | .stationSet => ∃ (n : Station) (x : Settings), x.InRange ∧ b = stationSetForm n x
  | .groupDefine => ∃ (g : GroupId) (d : GroupDef), d.InRange ∧ b = groupDefineForm g d
  | .groupTune => ∃ (g : GroupId) (x : Tuning), x.InRange ∧ b = groupTuneForm g x
  | .segmentQueue => ∃ (x : Segment) (grade ramp : Bool), x.InRange ∧ (grade = false → x.coeffs.grade = 0)
      ∧ (ramp = false → x.ramp = 0) ∧ b = segmentForm x grade ramp
  | .segmentCancel => ∃ v : Nat, v < 65536 ∧ b = tagForm v
  | .permitTime => ∃ v : Nat, 100 ≤ v ∧ v ≤ 60000 ∧ b = permitTimeForm v
  | .permitGrant | .permitRenew => ∃ m : BitVec 4, b = maskForm m
  | .filterSet => ∃ (c : FilterKind) (v : Nat), v ≤ 30000 ∧ b = filterSetForm c v
  | .sourceEnable => ∃ (c : FilterKind) (on : Bool), b = sourceEnableForm c on
  | .flagsClear | .noticeMask => ∃ w : BitVec 34, b = flagSetForm w
  | .forceSet => ∃ x y : Bool, b = forceSetForm x y
  | .excursionFetch => ∃ v : Nat, v ≤ 8 ∧ b = fetchForm v
  | .windowOpen => ∃ (g : GroupId) (v : Nat), v ≤ 10000 ∧ b = windowOpenForm g v
  | .ringRead => ∃ (g : GroupId) (start length : Nat) (wrap : Bool) (page : Nat), RingRange start length page
      ∧ b = ringReadForm g start length wrap page

/-! ## What the tables of the rules give -/

/-- R7: the steps of the quadrature state in the forward sense, 00, 10, 11, 01, 00. -/
def forwardSteps : List ((Bool × Bool) × (Bool × Bool)) :=
  [((false, false), (true, false)), ((true, false), (true, true)), ((true, true), (false, true)),
    ((false, true), (false, false))]

/-- R8: the forward transitions that a decode factor counts; the reverse ones are their mirror images. -/
def countedForward (factor : Nat) : List ((Bool × Bool) × (Bool × Bool)) :=
  if factor = 4 then forwardSteps
  else if factor = 2 then [((false, false), (true, false)), ((true, true), (false, true))]
  else [((false, false), (true, false))]

/-- R8: the count a transition gives before inversion: +1, −1 or 0. -/
def tableCount (factor : Nat) (old new : Bool × Bool) : Int :=
  if (old, new) ∈ countedForward factor then 1
  else if (new, old) ∈ countedForward factor then -1
  else 0

/-- A saturating counter takes one more: it stops at 65535. -/
def oneMore (n : Nat) : Nat := min (n + 1) 65535

/-- Held in the signed 32-bit range at the nearest end (R87). -/
def clamp32 (v : Int) : Int := max (-2147483648) (min 2147483647 v)

/-- Held in the signed 64-bit range at the nearest end (R87). -/
def clamp64 (v : Int) : Int := max (-9223372036854775808) (min 9223372036854775807 v)

/-- The number of a link class: its bit in a set of link classes (R194). -/
def LinkClass.bit : LinkClass → Nat
  | .p250 => 0
  | .p500 => 1
  | .p1000 => 2
  | .p2000 => 3

/-- What LINK ENABLE off, LINK RESTART, a negotiation failure and a loss with auto-renegotiate leave of a link
(R24, R25, R26, R38): every timer but the quiet timer stopped, the negotiation and the answers forgotten; the sequence
number, the missing run, the counters and the last frame on the line stand. -/
def Link.cleared (l : Link) (st : LinkState) (quiet : Option CellTime) : Link :=
  { state := st, quietDue := quiet, offerDue := none, negotiationDue := none, updateDue := none,
    offerContent := none, offerRun := 0, plainRun := 0, markedRun := 0, confirmCount := 0, recorded := none,
    mode := none, ceiling := none, seq := l.seq, outstanding := none, missingRun := l.missingRun, ready := false,
    fault := false, force := none, driveSpeed := none, lastSent := none, mismatch := false, good := false,
    checkErrors := l.checkErrors, missedReplies := l.missedReplies,
    negotiationFailures := l.negotiationFailures, sent := l.sent }

/-- The return to OFFER of R31: `c` is the changed offer, or none after a status frame or a STATION SET. -/
def Link.returned (l : Link) (c : Option OfferContent) : Link :=
  { l with state := .offer, recorded := none, markedRun := 0, confirmCount := 0, plainRun := 0, offerContent := c,
           offerRun := if c = none then 0 else 1 }

/-- Entry to UP (R32) with a mode and a ceiling. -/
def Link.risen (l : Link) (now : CellTime) (mode : LinkMode) (ceiling : Nat) : Link :=
  { l with state := .up, quietDue := none, offerDue := none, negotiationDue := none,
           updateDue := some (now + mode.cls.period), mode := some mode, ceiling := some ceiling, seq := 0#4,
           missingRun := 0, outstanding := none, ready := false, fault := false, force := none, driveSpeed := none,
           lastSent := none, mismatch := false }

/-- Entry to NOMATCH (R30). -/
def Link.unmatched (l : Link) : Link :=
  { l with state := .noMatch, quietDue := none, offerDue := none, negotiationDue := none, updateDue := none }

/-- The part's own offer word (R23). -/
def Settings.ownOffer (t : Settings) (mark : Bool) : OfferWord :=
  { content := { classes := t.classes, feedback := true, ceiling := BitVec.ofNat 8 (t.forceLimit / 100), identity := 0#8 },
    mark := mark }

/-- R39, at an evaluation with the link UP. -/
def mismatchAt (demand : Int) (force : Option Int) (limit : Nat) : Bool :=
  match force with
  | some f => demand != 0 && decide (limit < (f - demand).natAbs)
  | none => false

/-- The effects of R18 on a unit. -/
def EncoderUnit.restarted (u : EncoderUnit) : EncoderUnit :=
  { u with remainder := 0, lastIndex := none, prevIndex := none, indexArmed := false, indexBad := false,
           windowStart := none }

/-- The station is a member of a group whose state passes a test. -/
def State.memberOf (s : State) (n : Station) (test : GroupState → Bool) : Bool :=
  allFour.any fun g => test (s.groups.get g).state && (s.groups.get g).hasMember n

/-- Posted demands with 0 for every member of a list (R64). -/
def zeroedFor (ms : List Member) (p : Quad Int) : Quad Int :=
  Quad.ofFn fun n => if ms.any (fun m => m.station == n) then 0 else p.get n

/-- Entry to HELD (R77). -/
def Group.heldBy (x : Group) : Group :=
  { x with state := .held, engageDue := none, rampProgress := 0, confirm := 0, openSlip := none }

/-- Entry to TRIPPED (R80). -/
def Group.trippedBy (x : Group) : Group :=
  { x with state := .tripped, periodDue := none, engageDue := none, sync := false, openSlip := none }

/-- Entry to FREE by RELEASE (R74). -/
def Group.releasedBy (x : Group) : Group :=
  { x with state := .free, periodDue := none, engageDue := none, sync := false, openSlip := none, rampProgress := 0,
           confirm := 0 }

/-- The records the trip event hands to the log for the groups of a list, in their order, from a value of the
excursion counter on (R80, R156, R165, R166). -/
def tripRecords (s : State) : List GroupId → BitVec 16 → List ExcRecord
  | [], _ => []
  | g :: gs, c =>
    let x := s.groups.get g
    match x.state, x.openSlip with
    | .slipping, some o =>
      { seq := o.seq, group := g, kind := .slip, start := o.start, stop := s.clock, peakPosition := o.peakPosition,
        peakSpeed := o.peakSpeed, outcome := .tripped, tag := o.tag } :: tripRecords s gs c
    | .locked, _ | .engaging, _ =>
      { seq := c, group := g, kind := .trip, start := s.clock, stop := s.clock, peakPosition := 0, peakSpeed := 0,
        outcome := .tripped, tag := (s.scheds.get g).activeTag } :: tripRecords s gs (c + 1#16)
    | _, _ => tripRecords s gs c

/-! ## Due events -/

/-- A timer that runs has reached its expiry. -/
abbrev Reached (s : State) (t : Option CellTime) : Prop := ∃ d ∈ t.toList, d ≤ s.clock

/-- The event of a timed row is due in a state. -/
def DueIn (s : State) (i : Instr) : Prop :=
  match i with
  | .portReset => ∃ x ∈ s.port.tx.toList, x.thenReset = true ∧ x.due ≤ s.clock
  | .replySent => ∃ x ∈ s.port.tx.toList, x.due ≤ s.clock
  | .estimationIntervalExpiry n => (s.units.get n).estimateDue ≤ s.clock
  | .quietTimerExpiry n => (s.links.get n).state = .quiet ∧ Reached s (s.links.get n).quietDue
  | .offerTimerExpiry n => (s.links.get n).state.settling = true ∧ Reached s (s.links.get n).offerDue
  | .negotiationTimerExpiry n => (s.links.get n).state.settling = true ∧ Reached s (s.links.get n).negotiationDue
  | .updateTimerExpiry n => (s.links.get n).state = .up ∧ Reached s (s.links.get n).updateDue
  | .calWriteCompletion => ∃ o ∈ s.cal.op.toList, o.kind ≠ .lock ∧ o.due ≤ s.clock
  | .calLockCompletion => ∃ o ∈ s.cal.op.toList, o.kind = .lock ∧ o.due ≤ s.clock
  | .periodTimerExpiry g => (s.groups.get g).state.running = true ∧ Reached s (s.groups.get g).periodDue
  | .engageTimerExpiry g => (s.groups.get g).state = .engaging ∧ Reached s (s.groups.get g).engageDue
  | .segmentActivation => ∃ x ∈ s.road.resolved.head?.toList, x.due ≤ s.clock
  | .blendStep g => ∃ b ∈ (s.scheds.get g).blend.toList, ∃ a ∈ (s.scheds.get g).activatedAt.toList,
      a + (b.elapsed + 1) * 1000 ≤ s.clock
  | .durationEnd g => (s.scheds.get g).state = .active ∧ Reached s (s.scheds.get g).endsAt
  | .permitTimerExpiry => Reached s s.permit.due
  | .filterTimerExpiry i => (s.mon.flags.get i).state = .pending ∧ Reached s (s.mon.flags.get i).due
  | .gapTimerExpiry => Reached s s.port.gapDue
  | _ => False

/-! ## What the rules of the shared effects give -/

/-- A flag takes the level of its condition (R143, R145, R146, R149). -/
def Filtered.takes (f : Filtered) (enabled : Bool) (time now : Nat) (level : Bool) : Filtered :=
  if level = f.level then f
  else if enabled = true ∧ level = true ∧ f.state = .clear ∧ time ≠ 0 then
    { state := .pending, due := some (now + time * 100), level := true }
  else if enabled = true ∧ level = false ∧ f.state = .pending then { state := .clear, due := none, level := false }
  else { f with level := level }

/-- A record closes with an end time and an outcome (R165). -/
def OpenSlip.closed (o : OpenSlip) (g : GroupId) (now : CellTime) (oc : ExcOutcome) : ExcRecord :=
  { seq := o.seq, group := g, kind := .slip, start := o.start, stop := now, peakPosition := o.peakPosition,
    peakSpeed := o.peakSpeed, outcome := oc, tag := o.tag }

/-- A record written already closed takes the excursion counter (R163, R166). -/
def State.writtenRecord (s : State) (g : GroupId) (k : ExcKind) (start : CellTime) (oc : ExcOutcome) : ExcRecord :=
  { seq := s.exc.counter, group := g, kind := k, start := start, stop := s.clock, peakPosition := 0, peakSpeed := 0,
    outcome := oc, tag := (s.scheds.get g).activeTag }

/-- The excursion counter advances (R163). -/
def State.countedExcursion (s : State) : State := { s with exc := { s.exc with counter := s.exc.counter + 1#16 } }

/-- The first missing reply, the second and the third (R36, R38): `l` is the link as the judgment finds it. -/
def Link.missedOne (l : Link) : Link :=
  { l with missedReplies := oneMore l.missedReplies, missingRun := l.missingRun + 1,
           outstanding := l.outstanding.map fun o => { o with judged := true } }

/-- Lost without auto-renegotiate (R36, R38). -/
def Link.dropped (l : Link) : Link :=
  { l with state := .lost, quietDue := none, offerDue := none, negotiationDue := none, updateDue := none,
           good := false, ready := false, fault := false, mismatch := false, force := none, driveSpeed := none,
           lastSent := none, outstanding := none }

/-- A missing reply at station `n` whose link is `l` at the judgment (R36, R38, R76). -/
def State.missedAt (s : State) (n : Station) (l : Link) : State :=
  if l.missingRun + 1 = 3 then
    let lost := if (s.settings.get n).autoRenegotiate then l.missedOne.cleared .quiet (some (s.clock + 150000))
      else l.missedOne.dropped
    claimStation n { s with links := s.links.set n lost }
  else { s with links := s.links.set n l.missedOne }

/-- The gated demand and enable flag of a station (R35). -/
def State.gate (s : State) (n : Station) : Int × Bool :=
  if s.permit.mask.getLsbD n.val = true ∧ s.mon.tripOut = false then (s.posted.get n, true) else (0, false)

/-- A cycle frame is sent in mode `m` (R34, R35, R39). -/
def State.cycleSent (s : State) (n : Station) (m : LinkMode) : State :=
  let l := s.links.get n
  let q := if l.outstanding.isSome then l.seq + 1#4 else l.seq
  let d := s.gate n
  { s with links := s.links.set n { l with
      updateDue := some (s.clock + m.cls.period), seq := q,
      outstanding := some { seq := q, demand := d.1, judged := false },
      lastSent := some { demand := d.1, enable := d.2 },
      sent := some { at_ := s.clock, frame := .cycle d.1 d.2 q },
      mismatch := mismatchAt d.1 l.force (s.settings.get n).mismatchLimit } }

/-- A group's schedule takes a segment (R117, R118, R119; log 30 for the from-coefficients of a blend). -/
def Schedule.taken (x : Schedule) (y : Segment) (now : CellTime) (late : Bool) : Schedule :=
  { state := .active, active := some y, activatedAt := some now, endsAt := y.duration.map fun d => now + d * 1000,
    applied := if x.state = .idle ∨ y.ramp = 0 then some y.coeffs else some (x.applied.getD y.coeffs),
    blend := if x.state = .idle ∨ y.ramp = 0 then none
      else x.applied.map fun k => { source := k, target := y.coeffs, ramp := y.ramp, elapsed := 0 },
    late := if late then oneMore x.late else x.late }

/-- The heads of a resolved queue whose start has been reached activate one after another (R116). -/
def activatedBy (now : CellTime) (q : List Resolved) (z : Quad Schedule) : Quad Schedule :=
  (q.takeWhile fun x => decide (x.due ≤ now)).foldl
    (fun z x => z.set x.seg.group ((z.get x.seg.group).taken x.seg now (decide (x.due < now)))) z

/-- What stays of a resolved queue when the heads that are due have activated. -/
def stillPending (now : CellTime) (q : List Resolved) : List Resolved := q.dropWhile fun x => decide (x.due ≤ now)

/-- The order of the resolved queue (R110). -/
abbrev InStartOrder (q : List Resolved) : Prop :=
  q.Pairwise fun x y => x.due < y.due ∨ (x.due = y.due ∧ x.seg.arrival < y.seg.arrival)

/-- One coefficient at step `e` of `r` of a blend (R120). -/
def blendedAt (a b : Int) (e r : Nat) : Int := a + Int.tdiv ((b - a) * e) r

/-- The demands of a period are posted to the members of a group in their order (R99). -/
def postedTo (ms : List Member) (ds : List Int) (p : Quad Int) : Quad Int :=
  (ms.zip ds).foldl (fun q x => q.set x.1.station x.2) p

/-- A ring takes an entry, unless it is frozen (R175). -/
def Ring.taken (r : Ring) (e : RingEntry) : Ring :=
  if r.frozen then r else { r with slots := r.slots.set r.next (some e), next := (r.next + 1) % 32 }

/-! ## After a reset -/

/-- Every block at the end of a reset with the line levels of that moment (R1, R3, R19, R43, R45, R55, R61, R84, R115,
R129, R130, R162, R169, R170, R175, R193). -/
abbrev AtReset (t : State) (lines : LineLevels) : Prop :=
  t.clock = 0
    ∧ t.mark = { armed := false, valid := false, time := none, count := 0#16, lastEdge := none }
    ∧ (∀ n, t.units.get n =
        { lineA := lines.encA.get n, lineB := lines.encB.get n, count := 0#32, travel := 0,
          remainder := 0, lastIndex := none, prevIndex := none, indexArmed := false, indexBad := false,
          transitionBad := false, validRun := 1000, windowStart := none, lastCounted := none, speed := 0,
          crawl := true, overspeed := false, illegalCount := 0, indexErrors := 0, estimateDue := 250 })
    ∧ (∀ n, t.links.get n =
        { state := .off, quietDue := none, offerDue := none, negotiationDue := none,
          updateDue := none, offerContent := none, offerRun := 0, plainRun := 0, markedRun := 0, confirmCount := 0,
          recorded := none, mode := none, ceiling := none, seq := 0#4, outstanding := none, missingRun := 0,
          ready := false, fault := false, force := none, driveSpeed := none, lastSent := none, mismatch := false,
          good := false, checkErrors := 0, missedReplies := 0, negotiationFailures := 0, sent := none })
    ∧ t.cal.op = none ∧ t.cal.last = none
    ∧ (∀ n, t.settings.get n =
        { decode := 4, invert := false, checkIndex := false, tolerance := 4,
          overspeedLimit := 40000, forceLimit := 5000, mismatchLimit := 1000, classes := 15#4,
          autoRenegotiate := true, linkEnable := false })
    ∧ (∀ g, t.groups.get g =
        { state := .undefined, defn := none, offsets := none,
          history := [0, 0, 0, 0, 0, 0, 0, 0], rampProgress := 0, confirm := 0, openSlip := none, periodSeq := 0#32,
          periodDue := none, engageDue := none, engagedAt := none, sync := false })
    ∧ (∀ n, t.posted.get n = 0)
    ∧ t.road = { resolved := [], unresolved := [], nextArrival := 0 }
    ∧ (∀ g, t.scheds.get g =
        { state := .idle, active := none, activatedAt := none, endsAt := none, applied := none,
          blend := none, late := 0 })
    ∧ t.permit = { mask := 0#4, time := 0, due := none }
    ∧ t.mon.times = { overspeed := 500, encoder := 200, link := 100, mismatch := 2000, sync := 1000, tripIn := 50 }
    ∧ t.mon.enabled =
        { overspeed := true, encoder := true, link := true, mismatch := true, sync := true,
          tripIn := true }
    ∧ (∀ i, i ≠ .tripIn → t.mon.flags.get i = { state := .clear, due := none, level := false })
    ∧ t.mon.flags.tripIn = (if lines.tripIn then { state := .pending, due := some 5000, level := true }
        else { state := .clear, due := none, level := false })
    ∧ t.mon.tripIn = lines.tripIn ∧ t.mon.estopIn = lines.estopIn ∧ t.mon.estop = lines.estopIn
    ∧ t.mon.forceTrip = false ∧ t.mon.forceAlert = false ∧ t.mon.noticeMask = 0x3FFFFFFFF#34
    ∧ t.mon.tripOut = lines.estopIn ∧ t.mon.attnOut = true ∧ t.mon.tripCount = (if lines.estopIn then 1 else 0)
    ∧ t.exc = { log := [], lost := 0, counter := 0#16 }
    ∧ (∀ g, t.windows.get g = { state := .closed, limit := 0, openedAt := 0, cause := none, last := none })
    ∧ (∀ g, (t.rings.get g).slots.length = 32 ∧ (∀ e ∈ (t.rings.get g).slots, e = none)
        ∧ (t.rings.get g).next = 0 ∧ (t.rings.get g).frozen = false)
    ∧ t.port =
        { rx := .hunting, gapDue := none, queue := [], tx := none, checkCount := 0, framingCount := 0,
          prepared := false }

/-- Every alert but FORCE_ALERT clear, with POWER_ON and RESTART as given (R162). -/
def onlyResetAlerts (powerOn restart : Bool) : Alerts :=
  { powerOn := powerOn, restart := restart, permitExpired := false,
    scheduleDry := { i0 := false, i1 := false, i2 := false, i3 := false }, calUnlocked := false, portCheck := false,
    logLost := false }

/-! ## Invariants of the blocks -/

/-- R157: while TRIP_OUT is asserted the permit mask is empty, its timer stopped, and no group runs. -/
abbrev TripQuiet (s : State) : Prop :=
  s.mon.tripOut = true →
    s.permit.mask = 0#4 ∧ s.permit.due = none ∧ ∀ g ∈ allFour, (s.groups.get g).state.running = false

/-- R130: the permit mask is non-empty exactly while the permit timer runs. -/
abbrev PermitTimed (s : State) : Prop := s.permit.mask ≠ 0#4 ↔ s.permit.due.isSome = true

/-- R110, R167, R182, R175, R61: what each store holds at most. -/
abbrev WithinCapacity (s : State) : Prop :=
  s.road.resolved.length + s.road.unresolved.length ≤ 24 ∧ s.exc.log.length ≤ 32 ∧ s.port.queue.length ≤ 4
    ∧ ∀ g ∈ allFour, (s.rings.get g).slots.length = 32 ∧ (s.rings.get g).next < 32
        ∧ (s.groups.get g).history.length = 8

/-- R110: the order of the resolved queue and of the unresolved list, and the freshness of the next arrival number. -/
abbrev QueueOrdered (s : State) : Prop :=
  s.road.resolved.Pairwise (fun x y => x.due < y.due ∨ (x.due = y.due ∧ x.seg.arrival < y.seg.arrival))
    ∧ s.road.unresolved.Pairwise (fun x y => x.arrival < y.arrival)
    ∧ (∀ x ∈ s.road.resolved, x.seg.arrival < s.road.nextArrival ∧ ∀ y ∈ s.road.unresolved, x.seg.arrival ≠ y.arrival)
    ∧ (∀ y ∈ s.road.unresolved, y.arrival < s.road.nextArrival ∧ y.basis = .mark)

/-- R59, R62: a group holds a definition exactly while it is defined, in the ranges of R59, and a station is a member of
at most one defined group. -/
abbrev MembersApart (s : State) : Prop :=
  (∀ g ∈ allFour, ((s.groups.get g).defn.isSome = true ↔ (s.groups.get g).state ≠ .undefined))
    ∧ (∀ g ∈ allFour, ∀ d ∈ (s.groups.get g).defn.toList, d.InRange)
    ∧ (∀ g ∈ allFour, ∀ h ∈ allFour, g ≠ h → ∀ n ∈ allFour,
        ¬ ((s.groups.get g).hasMember n = true ∧ (s.groups.get h).hasMember n = true))

/-- Section 4.2, R65, R91, R101, R167: the timers, the open slot, the ramp and the SYNC condition by the group's state. -/
abbrev GroupTimed (s : State) : Prop :=
  ∀ g ∈ allFour, let x := s.groups.get g
    x.periodDue.isSome = x.state.running
      ∧ (x.engageDue.isSome = true ↔ x.state = .engaging)
      ∧ (x.openSlip.isSome = true ↔ x.state = .slipping)
      ∧ (x.sync = true → x.state.running = true)
      ∧ (x.state.running = true → x.offsets.map List.length = x.defn.map (·.members.length))
      ∧ (x.state = .engaging → x.confirm < 8 ∧ x.engagedAt.isSome = true)
      ∧ (x.state = .locked ∨ x.state = .slipping → some x.rampProgress = x.defn.map (·.ramp * 1000))

/-- Sections 2.1 and 2.4, R32, R38: the timers and the fields of a link by its state. -/
abbrev LinkTimed (s : State) : Prop :=
  ∀ n ∈ allFour, let l := s.links.get n
    (l.quietDue.isSome = true ↔ l.state = .quiet) ∧ l.offerDue.isSome = l.state.settling
      ∧ l.negotiationDue.isSome = l.state.settling ∧ (l.updateDue.isSome = true ↔ l.state = .up)
      ∧ (l.state = .up → l.mode.isSome = true ∧ l.ceiling.isSome = true ∧ l.missingRun < 3)
      ∧ (l.state ≠ .up → l.good = false ∧ l.ready = false ∧ l.fault = false ∧ l.mismatch = false ∧ l.force = none
          ∧ l.driveSpeed = none ∧ l.lastSent = none ∧ l.outstanding = none)
      ∧ (l.state = .acknowledge ∨ l.state = .confirm → l.recorded.isSome = true)
      ∧ ((s.settings.get n).linkEnable = true ↔ l.state ≠ .off)

/-- R79, R70: every member of a driving group has its link UP and its drive ready, with an update period no longer than
the group's, and its permit granted; its record is valid and not being written (R47). -/
abbrev DrivingReady (s : State) : Prop :=
  ∀ g ∈ allFour, (s.groups.get g).state.driving = true →
    ∀ d ∈ (s.groups.get g).defn.toList, ∀ m ∈ d.members,
      (s.links.get m.station).state = .up ∧ (s.links.get m.station).ready = true
        ∧ (∀ u ∈ (s.links.get m.station).mode.toList, u.cls.period ≤ d.period)
        ∧ s.permit.mask.getLsbD m.station.val = true
        ∧ (s.cal.records.get m.station).valid = true ∧ s.cal.writing m.station = false

/-- R64: only a member of a driving group has a posted demand other than 0. -/
abbrev PostedWhileDriving (s : State) : Prop :=
  ∀ n ∈ allFour, s.posted.get n ≠ 0 →
    ∃ g ∈ allFour, (s.groups.get g).state.driving = true ∧ (s.groups.get g).hasMember n = true

/-- R115, R125: the schedule record by its state, and no pending segment of an UNDEFINED group. -/
abbrev ScheduleSound (s : State) : Prop :=
  (∀ g ∈ allFour, let x := s.scheds.get g
    (x.state = .idle → x.active = none ∧ x.activatedAt = none ∧ x.endsAt = none ∧ x.applied = none ∧ x.blend = none)
      ∧ (x.state ≠ .idle → x.active.isSome = true ∧ x.activatedAt.isSome = true ∧ x.applied.isSome = true)
      ∧ (x.blend.isSome = true → x.state = .active)
      ∧ (∀ b ∈ x.blend.toList, b.elapsed < b.ramp)
      ∧ ((s.groups.get g).state = .undefined → x.state = .idle))
    ∧ (∀ x ∈ s.road.resolved, (s.groups.get x.seg.group).state ≠ .undefined)
    ∧ (∀ y ∈ s.road.unresolved, (s.groups.get y.group).state ≠ .undefined)

/-- The new constants an operation carries: those of a write, none of a lock (R45). -/
def CalOpKind.carried : CalOpKind → List CalConstants
  | .write k => [k]
  | .lock => []

/-- R44, R45, R50, R55: records and settings in their ranges; a locked record is valid and has no operation in flight. -/
abbrev StoreSound (s : State) : Prop :=
  (∀ n ∈ allFour, let r := s.cal.records.get n
    (r.valid = true → ({ circumference := r.circumference, mass := r.mass, lines := r.lines } : CalConstants).InRange)
      ∧ (r.locked = true → r.valid = true) ∧ (s.settings.get n).InRange)
    ∧ (∀ o ∈ s.cal.op.toList, o.due = o.acceptedAt + 40000 ∧ (s.cal.records.get o.station).locked = false
        ∧ (∀ k ∈ o.kind.carried, k.InRange) ∧ (o.kind = .lock → (s.cal.records.get o.station).valid = true))

/-- R10, R11, R16, R17: the remainder, the valid-count run, crawl and the overspeed condition of a unit. -/
abbrev UnitSound (s : State) : Prop :=
  ∀ n ∈ allFour, let u := s.units.get n
    ((s.cal.records.get n).valid = true → u.remainder < s.divisor n)
      ∧ u.validRun ≤ 1000 ∧ (u.transitionBad = true ↔ u.validRun < 1000)
      ∧ (u.crawl = true → u.speed = 0 ∧ u.windowStart = none)
      ∧ (u.windowStart.isSome = true → u.lastCounted.isSome = true)
      ∧ (u.speed = 0 → u.overspeed = false)
      ∧ (u.indexArmed = true → u.lastIndex.isSome = true)

/-- R180, R183, R190, R191, R141: the receiver's timer, the idle transmitter's empty queue, and the empty permit mask
under a held preparation and under an ordered reset. -/
abbrev PortSound (s : State) : Prop :=
  (s.port.rx = .hunting → s.port.gapDue = none) ∧ (s.port.tx = none → s.port.queue = [])
    ∧ (s.port.prepared = true → s.permit.mask = 0#4) ∧ (s.port.resetOrdered = true → s.permit.mask = 0#4)

/-- R142, R145, R146, R149: a filtered flag runs its timer exactly while PENDING, is PENDING only with its condition
present, and stays CLEAR while its kind is disabled; a flag of filter time 0 is never PENDING. -/
abbrev FiltersSound (s : State) : Prop :=
  ∀ i ∈ filteredIds, let f := s.mon.flags.get i
    (f.due.isSome = true ↔ f.state = .pending) ∧ (f.state = .pending → f.level = true)
      ∧ (s.mon.enabled.get i.kind = false → f.state = .clear)
      ∧ (s.mon.times.get i.kind = 0 → f.state ≠ .pending)
      ∧ (s.mon.enabled.get i.kind = true → s.mon.times.get i.kind ≠ 0 → f.state = .clear → f.level = false)

end Sys2Proof.Machine
end

