-- ==== Sys2Proof/Certificates/Slice0/Obligations.lean ====
section
/-! DEFINITION. The statements for the provers. -/

section

open Sys2Proof Sys2Proof.Machine

/-! ## Steps -/

/-- A step takes the command at the front of the queue and is its meaning on the state with the queue's rest. That the part
is driven so is the model's frame (log 1). -/
def Obligations.StepTakesTheFrontCommand : Prop :=
  ∀ (c : Instr) (rest : List Instr) (s : State),
    s.pending = c :: rest → step s = exec c { s with pending := rest }

/-- On an empty queue (log 1, log 2: the model's choice): one tick of the cell clock (R1) where no own event is due, the
own event that is due, or one of several. The own events are the timed rows whose timer has reached its expiry;
PORT_RESET is the end of a reply that orders it (log 9). A timed row that is not due changes nothing (log 3). -/
def Obligations.EmptyQueueTicksOrTakesADueEvent : Prop :=
  (∀ s : State, s.pending = [] →
    (dueEvents s = [] → step s = .next { s with clock := (s.clock + 1) % 2 ^ 48 })
      ∧ (∀ i, dueEvents s = [i] → step s = exec i s)
      ∧ (2 ≤ (dueEvents s).length →
          ∃ i ∈ dueEvents s, step s = exec i { s with freeCount := s.freeCount + 1 }))
    ∧ (∀ (s : State) (i : Instr), i ∈ dueEvents s ↔ DueIn s i ∧ i ≠ .portReset)
    ∧ ∀ (s : State) (i : Instr), Settled s → i.timed = true → ¬ DueIn s i → exec i s = .next s

/-! ## Invariants -/

/-- The state right after reset, with the line levels of log 8 and the records of log 25, meets every invariant below. -/
def Obligations.ResetStateMeetsEveryInvariant : Prop :=
  Settled State.reset ∧ TripQuiet State.reset ∧ PermitTimed State.reset ∧ WithinCapacity State.reset
    ∧ QueueOrdered State.reset ∧ MembersApart State.reset ∧ GroupTimed State.reset ∧ LinkTimed State.reset
    ∧ DrivingReady State.reset ∧ PostedWhileDriving State.reset ∧ ScheduleSound State.reset ∧ StoreSound State.reset
    ∧ UnitSound State.reset ∧ PortSound State.reset ∧ FiltersSound State.reset

/-- R143, R155, R159: between events every filtered flag holds its condition's level and the outputs follow the
flags. -/
def Obligations.StepKeepsSettled : Prop :=
  ∀ s t : State, Settled s → step s = .next t → Settled t

/-- R157: while TRIP_OUT is asserted no station is permitted, no group runs, and no drive is sent a demand. -/
def Obligations.StepKeepsTripQuiet : Prop :=
  ∀ s t : State, TripQuiet s → step s = .next t →
    TripQuiet t ∧ (t.mon.tripOut = true → ∀ n : Station, t.gate n = (0, false))

/-- R110, R167, R175, R182: no store ever holds more than its capacity, and both collections of segments keep their
order. -/
def Obligations.StepKeepsCapacityAndOrder : Prop :=
  ∀ s t : State, WithinCapacity s → QueueOrdered s → step s = .next t → WithinCapacity t ∧ QueueOrdered t

/-- R59, R62, R63, R65, R91, R101: definitions stay in their ranges, no station comes to belong to two groups, and a
group's timers, open slot, ramp and SYNC condition fit its state. -/
def Obligations.StepKeepsGroups : Prop :=
  ∀ s t : State, MembersApart s → GroupTimed s → step s = .next t → MembersApart t ∧ GroupTimed t

/-- R26, R32, R38: a link's timers and fields fit its state. -/
def Obligations.StepKeepsLinkTimed : Prop :=
  ∀ s t : State, LinkTimed s → step s = .next t → LinkTimed t

/-- R64, R70, R79: every member of a driving group keeps a link UP and ready, its permit and a valid record; only such a
member has a posted demand other than 0. -/
def Obligations.StepKeepsDriving : Prop :=
  ∀ s t : State, MembersApart s → GroupTimed s → LinkTimed s → DrivingReady s → PostedWhileDriving s →
    step s = .next t → DrivingReady t ∧ PostedWhileDriving t

/-- R115, R125, R127: the schedule record fits its state, and no segment is held for an UNDEFINED group. -/
def Obligations.StepKeepsScheduleSound : Prop :=
  ∀ s t : State, ScheduleSound s → step s = .next t → ScheduleSound t

/-- R44, R45, R50, R55: records and settings stay in their ranges, and a locked record never changes, through every
reset too. -/
def Obligations.StepKeepsStore : Prop :=
  ∀ s t : State, StoreSound s → step s = .next t →
    StoreSound t ∧ ∀ n : Station, (s.cal.records.get n).locked = true → t.cal.records.get n = s.cal.records.get n

/-- R10, R11, R16, R17: a capture unit's remainder, valid-count run, crawl and overspeed condition. -/
def Obligations.StepKeepsUnitSound : Prop :=
  ∀ s t : State, StoreSound s → UnitSound s → step s = .next t → UnitSound t

/-- R130, R180, R183, R190, R191: the permit mask is non-empty exactly while the permit timer runs; the port's own
invariant, by which no port reset is prepared or ordered while any station is permitted. -/
def Obligations.StepKeepsPermitAndPort : Prop :=
  ∀ s t : State, PermitTimed s → PortSound s → step s = .next t → PermitTimed t ∧ PortSound t

/-- R142, R145, R146, R149: the filtered flags. -/
def Obligations.StepKeepsFiltersSound : Prop :=
  ∀ s t : State, FiltersSound s → step s = .next t → FiltersSound t

/-! ## Effects shared by many commands -/

/-- R143, R145, R155, R156, R159 (log 20): what follows the effect of every event. The flags take their levels; TRIP_OUT
passing to asserted brings the trip event; TRIP_OUT asserts while some trip-class flag is set, ATTN_OUT while some set
flag is enabled in the notice mask. The levels are those that R14, R17, R38, R39, R104 and R142 give the 21 conditions. -/
def Obligations.EndOfEveryEvent : Prop :=
  (∀ b : State,
    let h := handConditions b
    (∀ i, h.mon.flags.get i
        = (b.mon.flags.get i).takes (b.mon.enabled.get i.kind) (b.mon.times.get i.kind) b.clock (b.condition i))
      ∧ h = { b with mon := { b.mon with flags := h.mon.flags } }
      ∧ (∀ x : State, driveLines x
          = { x with mon := { x.mon with tripOut := x.mon.tripSet, attnOut := x.mon.attnLevel } })
      ∧ (h.mon.tripSet = true ∧ b.mon.tripOut = false → settle b = driveLines (handConditions (tripEvent h)))
      ∧ (¬ (h.mon.tripSet = true ∧ b.mon.tripOut = false) → settle b = driveLines h))
    ∧
  (∀ m : Monitor,
    (m.tripSet = true ↔
      (∃ i, (m.flags.get i).state = .latched
          ∨ (m.enabled.get i.kind = true ∧ m.times.get i.kind = 0 ∧ (m.flags.get i).level = true))
        ∨ m.estop = true ∨ m.forceTrip = true)
      ∧ m.flagList.length = 34
      ∧ (m.attnLevel = true ↔ ∃ k, k < 34 ∧ m.flagList.getD k false = true ∧ m.noticeMask.getLsbD k = true))
    ∧
  ∀ (s : State) (n : Station) (g : GroupId),
    let u := s.units.get n
    let l := s.links.get n
    s.condition (.overspeed n) = u.overspeed
      ∧ (s.condition (.encoder n) = true ↔ u.indexBad = true ∨ u.transitionBad = true)
      ∧ (MembersApart s → (s.condition (.link n) = true ↔
          l.state = .noMatch ∨ (l.state = .up ∧ l.fault = true)
            ∨ (l.state ≠ .up ∧ ∃ h, (s.groups.get h).state.running = true ∧ (s.groups.get h).hasMember n = true)))
      ∧ s.condition (.mismatch n) = l.mismatch
      ∧ s.condition (.sync g) = (s.groups.get g).sync
      ∧ s.condition .tripIn = s.mon.tripIn

/-- R156, R158, R137, R80: the trip event counts, withdraws the permits and reaches the groups in turn. -/
def Obligations.TripEventReachesEveryBlock : Prop :=
  (∀ s : State, tripEvent s = tripGroup 3 (tripGroup 2 (tripGroup 1 (tripGroup 0
      { s with mon := { s.mon with tripCount := oneMore s.mon.tripCount },
               permit := { s.permit with mask := 0#4, due := none } }))))
    ∧ ∀ (s : State) (g : GroupId),
      let x := s.groups.get g
      let after (u : State) : State :=
        { u with groups := u.groups.set g x.trippedBy, posted := zeroedFor x.members s.posted,
                 rings := s.rings.set g { s.rings.get g with frozen := true } }
      (x.state.running = false → tripGroup g s = s)
        ∧ (x.state = .held → x.openSlip = none → tripGroup g s = windowCause g none (some .tripped) (after s))
        ∧ (x.state = .slipping → ∀ o, x.openSlip = some o →
            let r := o.closed g s.clock .tripped
            tripGroup g s = windowCause g (some r) (some .tripped) (after (logRecord r s)))
        ∧ (x.state = .locked ∨ x.state = .engaging → x.openSlip = none →
            let r := s.writtenRecord g .trip s.clock .tripped
            tripGroup g s = windowCause g (some r) (some .tripped) (after (logRecord r s.countedExcursion)))

/-- R76, R77, R134: a HELD claim sends a driving group to HELD and leaves every other; lost permits claim the groups of
the stations that lost them, in the order G0 to G3, which is the model's choice (log 6). -/
def Obligations.HeldClaims : Prop :=
  (∀ (s : State) (g : GroupId),
    let x := s.groups.get g
    let after (u : State) : State :=
      { u with groups := u.groups.set g x.heldBy, posted := zeroedFor x.members s.posted }
    (x.state.driving = false → claimHeld g s = s)
      ∧ (x.state.driving = true → x.openSlip = none →
          claimHeld g s = windowCause g none (some .held) (after s))
      ∧ (x.state.driving = true → ∀ o, x.openSlip = some o →
          let r := o.closed g s.clock .held
          claimHeld g s = windowCause g (some r) (some .held) (after (logRecord r s))))
    ∧ (∀ (s : State) (n : Station) (g : GroupId), MembersApart s → (s.groups.get g).state ≠ .undefined →
        (s.groups.get g).hasMember n = true → claimStation n s = claimHeld g s)
    ∧ (∀ (s : State) (n : Station), s.memberOf n (· != .undefined) = false → claimStation n s = s)
    ∧ (∀ (s : State) (removed : BitVec 4), claimRemoved removed s
        = allFour.foldl (fun t g => if (s.groups.get g).members.any (fun m => removed.getLsbD m.station.val)
            then claimHeld g t else t) s)

/-- R163, R164, R167, R172 (log 15 for the sequence number of a HELD or TRIPPED cause): records open with the excursion
counter; the log holds 32, drops the next, counts it and latches LOG_LOST; the first cause of an OPEN-VALID window. -/
def Obligations.ExcursionsAndFirstCauses : Prop :=
  (∀ (s : State),
    (∀ (g : GroupId) (p v : Nat),
      let o : OpenSlip := { seq := s.exc.counter, start := s.clock, peakPosition := p, peakSpeed := v,
                            tag := (s.scheds.get g).activeTag }
      openExcursion g p v s
        = { s.countedExcursion with groups := s.groups.set g { s.groups.get g with openSlip := some o } })
      ∧ ∀ r : ExcRecord,
        (s.exc.log.length < 32 → logRecord r s = { s with exc := { s.exc with log := s.exc.log ++ [r] } })
          ∧ (32 ≤ s.exc.log.length → logRecord r s
              = { s with exc := { s.exc with lost := oneMore s.exc.lost },
                         mon := { s.mon with alerts := { s.mon.alerts with logLost := true } } }))
    ∧
  ∀ (s : State) (g : GroupId) (r : Option ExcRecord) (own : Option CauseKind),
    let w := s.windows.get g
    let spoiltBy (k : CauseKind) (q : Option (BitVec 16)) : Window :=
      { w with state := .openInvalid, cause := some { kind := k, at_ := s.clock, seq := q } }
    let spoilt (k : CauseKind) (q : Option (BitVec 16)) : State :=
      { s with windows := s.windows.set g (spoiltBy k q) }
    (w.state ≠ .openValid → windowCause g r own s = s)
      ∧ (w.state = .openValid →
        (r = none → windowCause g r own s = (match own with | some k => spoilt k none | none => s))
          ∧ (∀ x, r = some x → w.limit * 1000 < x.stop - x.start →
              windowCause g r own s = spoilt .duration (some x.seq))
          ∧ (∀ x, r = some x → ¬ w.limit * 1000 < x.stop - x.start →
              windowCause g r own s = (match x.outcome with
                | .held => spoilt .held (some x.seq)
                | .tripped => spoilt .tripped (some x.seq)
                | .timeout => spoilt .timeout (some x.seq)
                | .recovered | .released => (match own with | some k => spoilt k none | none => s))))

/-! ## Cell clock and mark capture -/

/-- R2, R5, R6, R20, R21: the requests on the cell clock, the mark capture and the encoder units. -/
def Obligations.ClockMarkAndEncoderRequests : Prop :=
  (∀ (s : State) (tag : Byte), Settled s → PortIdle s →
    exec (.clockRead tag []) s = .next (s.replied 0x01#8 tag .ok (le 6 s.clock))
      ∧ exec (.markArm tag []) s
        = .next (({ s with mark := { s.mark with armed := true, valid := false } } : State).repliedOk 0x02#8 tag)
      ∧ exec (.markRead tag []) s
        = .next (s.replied 0x03#8 tag .ok ([flagByte s.mark.armed, flagByte s.mark.valid, flagByte s.mark.time.isSome,
            flagByte s.mark.lastEdge.isSome] ++ le 2 s.mark.count.toNat ++ le 6 (s.mark.time.getD 0)
            ++ le 6 (s.mark.lastEdge.getD 0) ++ le 6 s.clock)))
    ∧
  ∀ (s : State) (tag : Byte) (n : Station), Settled s → PortIdle s →
    let u := s.units.get n
    exec (.encoderRead tag (stationForm n)) s
        = .next (s.replied 0x04#8 tag .ok (le 4 u.count.toNat ++ leInt 8 u.travel ++ leInt 4 u.speed
            ++ le 4 (u.lastIndex.getD 0#32).toNat ++ le 4 (u.prevIndex.getD 0#32).toNat
            ++ [flagByte u.crawl, flagByte u.lastIndex.isSome, flagByte u.prevIndex.isSome, flagByte u.indexBad,
                flagByte u.transitionBad, flagByte u.overspeed, flagByte (u.indexBad || u.transitionBad), 0#8]
            ++ le 6 s.clock))
      ∧ exec (.encoderCounters tag (stationForm n)) s
        = .next (({ s with units := s.units.set n { u with illegalCount := 0, indexErrors := 0 } } : State).replied
            0x05#8 tag .ok (le 2 u.illegalCount ++ le 2 u.indexErrors))

/-- R4, R113, R116: a rising edge of MARK_IN. The from-coefficients of a blend that supersedes at one instant (log 30), and
a head already due that activates in this event (log 31), are the model's choices. -/
def Obligations.MarkEdgeIsCountedAndResolves : Prop :=
  ∀ s : State, Settled s →
    let stamped : MarkCapture := { s.mark with lastEdge := some s.clock, count := s.mark.count + 1#16 }
    (s.mark.armed = false → exec .markInEdge s = .next { s with mark := stamped })
      ∧ (s.mark.armed = true → QueueOrdered s →
          ∃ q : List Resolved,
            q.Perm (s.road.resolved ++ s.road.unresolved.map fun y => { seg := y, due := s.clock + y.start })
              ∧ InStartOrder q
              ∧ ((∀ y ∈ s.road.unresolved, y.start ≠ 0) → exec .markInEdge s = .next { s with
                  mark := { stamped with armed := false, valid := true, time := some s.clock },
                  road := { s.road with resolved := q, unresolved := [] } })
              ∧ ((∃ y ∈ s.road.unresolved, y.start = 0) → exec .markInEdge s = .next { s with
                  mark := { stamped with armed := false, valid := true, time := some s.clock },
                  road := { s.road with resolved := stillPending s.clock q, unresolved := [] },
                  scheds := activatedBy s.clock q s.scheds }))

/-! ## Encoder capture -/

/-- R7, R8, R9, R10, R11, R15, R16: a valid transition. The fine timestamp carries the operand's
thirty-seconds (log 29). Beyond 9 × 10^18 µm the travel may be a free value (log 7). -/
def Obligations.ValidTransition : Prop :=
  ∀ (s : State) (n : Station) (a b : Bool) (frac : Fin 32), StoreSound s → UnitSound s →
    let u := s.units.get n
    let c := s.cal.records.get n
    let t := s.settings.get n
    let k : Int := (if t.invert then -1 else 1) * tableCount t.decode (u.lineA, u.lineB) (a, b)
    let e : Edge := { fine := 32 * s.clock + frac.val, count := u.count + BitVec.ofInt 32 k }
    (a = u.lineA ↔ b ≠ u.lineB) →
      (k = 0 → exec (.encoderTransition n a b frac) s
          = .next (settle { s with units := s.units.set n { u with lineA := a, lineB := b } }))
        ∧ (k ≠ 0 → ∃ (v : Int) (r j : Nat),
            let counted : EncoderUnit :=
              { u with lineA := a, lineB := b, count := e.count, travel := v, remainder := r, lastCounted := some e,
                       windowStart := some (u.windowStart.getD e), crawl := false,
                       validRun := if u.transitionBad then min (u.validRun + 1) 1000 else u.validRun,
                       transitionBad := u.transitionBad && decide (u.validRun + 1 < 1000) }
            exec (.encoderTransition n a b frac) s
                = .next (settle { s with units := s.units.set n counted, freeCount := j })
              ∧ (c.valid = false → v = u.travel ∧ r = u.remainder ∧ j = s.freeCount)
              ∧ (c.valid = true → r < c.lines * t.decode)
              ∧ (c.valid = true → u.travel.natAbs ≤ 9000000000000000000 → j = s.freeCount
                  ∧ v * (c.lines * t.decode) + r = u.travel * (c.lines * t.decode) + u.remainder + k * c.circumference))

/-- R7, R11: an illegal transition, and a sample equal to the quadrature state. -/
def Obligations.IllegalTransitionAndEqualSample : Prop :=
  ∀ (s : State) (n : Station) (a b : Bool) (frac : Fin 32),
    let u := s.units.get n
    (a ≠ u.lineA → b ≠ u.lineB → exec (.encoderTransition n a b frac) s
        = .next (settle { s with units := s.units.set n { u with
            lineA := a, lineB := b, illegalCount := oneMore u.illegalCount, transitionBad := true, validRun := 0 } }))
      ∧ (a = u.lineA → b = u.lineB → Settled s → exec (.encoderTransition n a b frac) s = .next s)

/-- R12, R13: an index event. -/
def Obligations.IndexEventCapturesAndChecks : Prop :=
  ∀ (s : State) (n : Station),
    let u := s.units.get n
    let t := s.settings.get n
    let c := s.cal.records.get n
    let d : Int := (c.lines * t.decode : Nat)
    let v : EncoderUnit := { u with lastIndex := some u.count, prevIndex := u.lastIndex }
    let left (w : EncoderUnit) : Prop :=
      exec (.indexEvent n) s = .next (settle { s with units := s.units.set n w })
    (t.checkIndex = false ∨ c.valid = false → left v)
      ∧ (t.checkIndex = true → c.valid = true → u.indexArmed = false → left { v with indexArmed := true })
      ∧ (t.checkIndex = true → c.valid = true → u.indexArmed = true → ∀ p, u.lastIndex = some p →
          let interval := (u.count - p).toInt
          let good := (interval - d).natAbs ≤ t.tolerance ∨ (interval + d).natAbs ≤ t.tolerance
            ∨ interval.natAbs ≤ t.tolerance
          (good → left { v with indexBad := false })
            ∧ (¬ good → left { v with indexBad := true, indexErrors := oneMore u.indexErrors }))

/-- R15, R16, R17 (log 11: 64 ms compared on the fine scale): an expiry of the estimation interval. -/
def Obligations.EstimationInterval : Prop :=
  ∀ (s : State) (n : Station),
    let u := s.units.get n
    let c := s.cal.records.get n
    let limit := (s.settings.get n).overspeedLimit
    let left (w : EncoderUnit) : Prop :=
      exec (.estimationIntervalExpiry n) s = .next (settle { s with units := s.units.set n { w with
        overspeed := decide (limit < w.speed.natAbs), estimateDue := s.clock + 250 } })
    let crawling : EncoderUnit := { u with speed := 0, crawl := true, windowStart := none }
    u.estimateDue ≤ s.clock →
      (u.windowStart = none → u.crawl = true → left u)
        ∧ (u.windowStart = none → u.crawl = false → left crawling)
        ∧ (∀ w e, u.windowStart = some w → u.lastCounted = some e → w.fine < e.fine →
            let exact := Int.tdiv ((e.count - w.count).toInt * c.circumference * 32000)
              ((c.lines * (s.settings.get n).decode * (e.fine - w.fine) : Nat) : Int)
            left { u with speed := if c.valid then clamp32 exact else 0, windowStart := some e })
        ∧ (∀ w, u.windowStart = some w → (∀ e, u.lastCounted = some e → e.fine ≤ w.fine) →
            (w.fine + 64000 * 32 ≤ 32 * s.clock → left crawling)
              ∧ (32 * s.clock < w.fine + 64000 * 32 → left u))

/-! ## Drive links -/

/-- R22, R27, R28, R29, R31: frames in the states that discard them, and frames while negotiating. -/
def Obligations.FramesOutsideUp : Prop :=
  (∀ (s : State) (n : Station), Settled s →
    let l := s.links.get n
    (l.state = .off ∨ l.state = .quiet ∨ l.state = .lost ∨ l.state = .noMatch →
        ∀ f, exec (.dlkFrameReceived n f) s = .next s)
      ∧ (l.state.settling = true → exec (.dlkFrameReceived n .badCheck) s
          = .next { s with links := s.links.set n { l with checkErrors := oneMore l.checkErrors } }))
    ∧
  ∀ (s : State) (n : Station),
    let l := s.links.get n
    let t := s.settings.get n
    let left (f : DlkFrame) (x : Link) : Prop :=
      exec (.dlkFrameReceived n f) s = .next (settle { s with links := s.links.set n x })
    (l.state = .offer → ∀ w : OfferWord,
        let run := if l.offerRun ≠ 0 ∧ l.offerContent = some w.content then l.offerRun + 1 else 1
        (run ≠ 3 → left (.offer w) { l with offerContent := some w.content, offerRun := run, plainRun := 0 })
          ∧ (run = 3 → left (.offer w) { l with
              offerContent := some w.content, offerRun := 3, plainRun := 0, state := .acknowledge, markedRun := 0,
              recorded := some { content := w.content, mark := w.mark } }))
      ∧ (l.state = .offer → ∀ f : StatusFrame,
        let x : Link := { l with plainRun := l.plainRun + 1, offerRun := 0, offerContent := none }
        (l.plainRun + 1 ≠ 3 → left (.status f) x)
          ∧ (l.plainRun + 1 = 3 → t.classes.getLsbD 2 = true → left (.status f)
              (({ x with recorded := none } : Link).risen s.clock { cls := .p1000, feedback := false } t.forceLimit))
          ∧ (l.plainRun + 1 = 3 → t.classes.getLsbD 2 = false → left (.status f) x.unmatched))
      ∧ (l.state = .acknowledge → ∀ r : RecordedOffer, l.recorded = some r → ∀ w : OfferWord,
        let run := if w.mark then l.markedRun + 1 else 0
        let x : Link := { l with recorded := some { content := r.content, mark := w.mark }, markedRun := run }
        (w.content = r.content → run ≠ 3 → left (.offer w) x)
          ∧ (w.content = r.content → run = 3 → left (.offer w) { x with state := .confirm, confirmCount := 0 })
          ∧ (w.content ≠ r.content → left (.offer w) (l.returned (some w.content))))
      ∧ (l.state = .confirm → ∀ r : RecordedOffer, l.recorded = some r → ∀ w : OfferWord,
        (w.content = r.content → w.mark = true →
            left (.offer w) { l with recorded := some { content := r.content, mark := true } })
          ∧ (w.content ≠ r.content ∨ w.mark = false → left (.offer w) (l.returned (some w.content))))
      ∧ (l.state = .acknowledge ∨ l.state = .confirm → ∀ f : StatusFrame, left (.status f) (l.returned none))

/-- R23, R26, R27, R29, R30, R33: the quiet timer, the offer timer with the resolution at the sixth confirmation, and
the negotiation timer. -/
def Obligations.NegotiationTimers : Prop :=
  ∀ (s : State) (n : Station), LinkTimed s →
    let l := s.links.get n
    let t := s.settings.get n
    let left (i : Instr) (x : Link) : Prop := exec i s = .next (settle { s with links := s.links.set n x })
    let offered (mark : Bool) : Link :=
      { l with offerDue := some (s.clock + 1000),
               sent := some { at_ := s.clock, frame := .offer (t.ownOffer mark) } }
    let confirmed : Link := { offered true with confirmCount := l.confirmCount + 1 }
    (l.state = .quiet → Reached s l.quietDue → left (.quietTimerExpiry n)
        { offered false with state := .offer, quietDue := none, negotiationDue := some (s.clock + 2000000) })
      ∧ (l.state = .offer → Reached s l.offerDue → left (.offerTimerExpiry n) (offered false))
      ∧ (l.state = .acknowledge → Reached s l.offerDue → left (.offerTimerExpiry n) (offered true))
      ∧ (l.state = .confirm → Reached s l.offerDue → l.confirmCount + 1 ≠ 6 →
          left (.offerTimerExpiry n) confirmed)
      ∧ (l.state = .confirm → Reached s l.offerDue → l.confirmCount + 1 = 6 → ∀ r, l.recorded = some r →
          let common := t.classes &&& r.content.classes
          (common = 0#4 → left (.offerTimerExpiry n) confirmed.unmatched)
            ∧ (∀ c : LinkClass, common.getLsbD c.bit = true → (∀ b, b < c.bit → common.getLsbD b = false) →
                left (.offerTimerExpiry n) (confirmed.risen s.clock { cls := c, feedback := r.content.feedback }
                  (min (r.content.ceiling.toNat * 100) t.forceLimit))))
      ∧ (l.state.settling = true → Reached s l.negotiationDue → left (.negotiationTimerExpiry n)
          (({ l with negotiationFailures := oneMore l.negotiationFailures } : Link).cleared .quiet
            (some (s.clock + 150000))))

/-- R36, R37, R38, R39: the reply to a cycle frame is judged once. -/
def Obligations.RepliesInUp : Prop :=
  ∀ (s : State) (n : Station),
    let l := s.links.get n
    l.state = .up →
      (∀ o, l.outstanding = some o → o.judged = false →
        (∀ f : StatusFrame, f.echo = o.seq →
          let b : State := { s with links := s.links.set n { l with
            missingRun := 0, outstanding := some { o with judged := true }, force := some f.force.toInt,
            driveSpeed := if (l.mode.map (·.feedback)) = some true then some f.driveSpeed.toInt else none,
            ready := f.ready, fault := f.fault,
            mismatch := match l.lastSent with
              | some d => mismatchAt d.demand (some f.force.toInt) (s.settings.get n).mismatchLimit
              | none => false } }
          (f.ready = true → exec (.dlkFrameReceived n (.status f)) s = .next (settle b))
            ∧ (f.ready = false → exec (.dlkFrameReceived n (.status f)) s = .next (settle (claimStation n b))))
          ∧ (∀ f : StatusFrame, f.echo ≠ o.seq →
              exec (.dlkFrameReceived n (.status f)) s = .next (settle (s.missedAt n l)))
          ∧ (∀ w : OfferWord, exec (.dlkFrameReceived n (.offer w)) s = .next (settle (s.missedAt n l)))
          ∧ exec (.dlkFrameReceived n .badCheck) s
            = .next (settle (s.missedAt n { l with checkErrors := oneMore l.checkErrors })))
        ∧ ((∀ o, l.outstanding = some o → o.judged = true) → Settled s →
            (∀ f : StatusFrame, exec (.dlkFrameReceived n (.status f)) s = .next s)
              ∧ (∀ w : OfferWord, exec (.dlkFrameReceived n (.offer w)) s = .next s)
              ∧ exec (.dlkFrameReceived n .badCheck) s
                = .next { s with links := s.links.set n { l with checkErrors := oneMore l.checkErrors } })

/-- R34, R35, R36: an expiry of the update timer in UP. -/
def Obligations.UpdateExpirySendsTheGatedDemand : Prop :=
  ∀ (s : State) (n : Station) (m : LinkMode),
    let l := s.links.get n
    l.state = .up → l.mode = some m → Reached s l.updateDue →
      ((∀ o, l.outstanding = some o → o.judged = true) →
          exec (.updateTimerExpiry n) s = .next (settle (s.cycleSent n m)))
        ∧ (∀ o, l.outstanding = some o → o.judged = false →
            (l.missingRun + 1 ≠ 3 →
                exec (.updateTimerExpiry n) s = .next (settle ((s.missedAt n l).cycleSent n m)))
              ∧ (l.missingRun + 1 = 3 → exec (.updateTimerExpiry n) s = .next (settle (s.missedAt n l))))

/-- R24, R25, R38: LINK ENABLE and LINK RESTART; leaving UP claims the station's group. -/
def Obligations.LinkEnableAndRestart : Prop :=
  ∀ (s : State) (tag : Byte) (n : Station), PortIdle s → LinkTimed s →
    let l := s.links.get n
    let enabled (on : Bool) : Quad Settings := s.settings.set n { s.settings.get n with linkEnable := on }
    let quiet := l.cleared .quiet (some (s.clock + 150000))
    (l.state = .off → exec (.linkEnable tag (linkEnableForm n true)) s
        = .next (settle (({ s with settings := enabled true, links := s.links.set n quiet } : State).repliedOk
            0x10#8 tag)))
      ∧ (l.state ≠ .off → exec (.linkEnable tag (linkEnableForm n true)) s
          = .next (settle (s.repliedOk 0x10#8 tag)))
      ∧ (l.state ≠ .up → exec (.linkEnable tag (linkEnableForm n false)) s
          = .next (settle (({ s with settings := enabled false,
                                     links := s.links.set n (l.cleared .off none) } : State).repliedOk 0x10#8 tag)))
      ∧ (l.state = .up → exec (.linkEnable tag (linkEnableForm n false)) s
          = .next (settle ((claimStation n { s with settings := enabled false,
                                                    links := s.links.set n (l.cleared .off none) }).repliedOk
              0x10#8 tag)))
      ∧ (l.state = .off → exec (.linkRestart tag (stationForm n)) s
          = .next (settle (s.replied 0x11#8 tag .state [])))
      ∧ (l.state ≠ .off → l.state ≠ .up → exec (.linkRestart tag (stationForm n)) s
          = .next (settle (({ s with links := s.links.set n quiet } : State).repliedOk 0x11#8 tag)))
      ∧ (l.state = .up → exec (.linkRestart tag (stationForm n)) s
          = .next (settle ((claimStation n { s with links := s.links.set n quiet }).repliedOk 0x11#8 tag)))

/-- R40, R41: LINK STATUS sets the link-good latch by the state; LINK COUNTERS clears what it returns. -/
def Obligations.LinkReads : Prop :=
  ∀ (s : State) (tag : Byte) (n : Station), Settled s → PortIdle s →
    let l := s.links.get n
    let cleared : Link := { l with checkErrors := 0, missedReplies := 0, negotiationFailures := 0 }
    exec (.linkStatus tag (stationForm n)) s
        = .next (({ s with links := s.links.set n { l with good := l.state == .up } } : State).replied 0x12#8 tag .ok
            ([BitVec.ofNat 8 (linkStateCode l.state), flagByte l.good, flagByte l.mode.isSome,
                BitVec.ofNat 8 ((l.mode.map (·.cls.bit)).getD 0), flagByte ((l.mode.map (·.feedback)).getD false),
                flagByte l.ceiling.isSome] ++ le 2 (l.ceiling.getD 0)
              ++ [flagByte l.recorded.isSome, BitVec.ofNat 8 ((l.recorded.map (·.content.classes.toNat)).getD 0),
                flagByte ((l.recorded.map (·.content.feedback)).getD false),
                (l.recorded.map (·.content.ceiling)).getD 0#8, flagByte ((l.recorded.map (·.mark)).getD false),
                (l.recorded.map (·.content.identity)).getD 0#8, flagByte l.ready, flagByte l.fault,
                flagByte l.force.isSome, flagByte l.driveSpeed.isSome, flagByte l.lastSent.isSome,
                flagByte ((l.lastSent.map (·.enable)).getD false)]
              ++ leInt 4 (l.force.getD 0) ++ leInt 4 (l.driveSpeed.getD 0)
              ++ leInt 4 ((l.lastSent.map (·.demand)).getD 0)
              ++ [flagByte l.mismatch, flagByte (s.settings.get n).linkEnable]))
      ∧ exec (.linkCounters tag (stationForm n)) s
        = .next (({ s with links := s.links.set n cleared } : State).replied 0x13#8 tag .ok
            (le 2 l.checkErrors ++ le 2 l.missedReplies ++ le 2 l.negotiationFailures))

/-! ## Calibration records and station settings -/

/-- R46, R49, R50, R18: CAL WRITE and CAL LOCK are refused by the first cause that applies, or start an operation of
40 ms; the completion of a write and of a lock. -/
def Obligations.CalibrationOperations : Prop :=
  (∀ (s : State) (tag : Byte) (n : Station), Settled s → PortIdle s → MembersApart s →
    let r := s.cal.records.get n
    let started (k : CalOpKind) : State :=
      { s with cal := { s.cal with
          op := some { kind := k, station := n, acceptedAt := s.clock, due := s.clock + 40000 } } }
    (∀ k : CalConstants, k.InRange → exec (.calWrite tag (calWriteForm n k)) s = .next (
        if s.cal.op.isSome then s.replied 0x18#8 tag .busy []
        else if r.locked then s.replied 0x18#8 tag .locked []
        else if s.memberOf n GroupState.running then s.replied 0x18#8 tag .state []
        else (started (.write k)).repliedOk 0x18#8 tag))
      ∧ exec (.calLock tag (stationForm n)) s = .next (
        if s.cal.op.isSome then s.replied 0x1A#8 tag .busy []
        else if r.locked then s.replied 0x1A#8 tag .locked []
        else if r.valid then (started .lock).repliedOk 0x1A#8 tag
        else s.replied 0x1A#8 tag .state []))
    ∧
  ∀ (s : State) (o : CalOp), s.cal.op = some o → o.due ≤ s.clock →
    let n := o.station
    let r := s.cal.records.get n
    let stored (x : CalRecord) (lock : Bool) : CalStore :=
      { records := s.cal.records.set n x, op := none,
        last := some { wasLock := lock, station := n, at_ := s.clock } }
    (∀ k, o.kind = .write k →
        let x : CalRecord := { circumference := k.circumference, mass := k.mass, lines := k.lines, valid := true,
                               locked := r.locked, serial := oneMore r.serial }
        exec .calWriteCompletion s = .next (settle { s with
          cal := stored x false, units := s.units.set n (s.units.get n).restarted }))
      ∧ (o.kind = .lock → exec .calLockCompletion s
          = .next (settle { s with cal := stored { r with locked := true } true }))

/-- R54: the capability table of ten bytes, and CAPABILITY READ. -/
def Obligations.CapabilityTable : Prop :=
  ∀ (s : State) (tag : Byte), Settled s → PortIdle s →
    let table : List Byte :=
      [0x42#8, 0x3A#8, 3#8, 4#8, 4#8, 24#8, 32#8, 32#8, 0x0F#8, 250#8]
    (∀ o l : Nat, o ≤ 9 → 1 ≤ l → l ≤ 10 → o + l ≤ 10 →
        exec (.capabilityRead tag (capabilityForm o l)) s
          = .next (s.replied 0x1C#8 tag .ok ((table.drop o).take l)))
      ∧ (∀ o l : Nat, o < 256 → l < 256 → 9 < o ∨ l = 0 ∨ 10 < l ∨ 10 < o + l →
        exec (.capabilityRead tag (capabilityForm o l)) s = .next (s.replied 0x1C#8 tag .badValue []))
      ∧ (∀ b : List Byte, b.length ≠ 2 →
        exec (.capabilityRead tag b) s = .next (s.replied 0x1C#8 tag .badLength []))

/-- R52, R53, R58: CAL READ, CAL STATE and STATION READ. -/
def Obligations.StoreAndStationReads : Prop :=
  ∀ (s : State) (tag : Byte) (n : Station), Settled s → PortIdle s →
    let r := s.cal.records.get n
    let t := s.settings.get n
    let flight : Nat := match s.cal.op with
      | some o => if o.station = n then calKindCode o.kind else 0
      | none => 0
    exec (.calRead tag (stationForm n)) s
        = .next (s.replied 0x19#8 tag .ok (le 4 r.circumference ++ le 2 r.mass ++ le 2 r.lines
            ++ [flagByte r.valid, flagByte r.locked] ++ le 2 r.serial ++ [BitVec.ofNat 8 flight, 0#8]))
      ∧ (∃ x y : List Byte, x.length = 24 ∧ y.length = 8
        ∧ exec (.calState tag []) s = .next (s.replied 0x1B#8 tag .ok (x ++ y))
        ∧ (s.cal.op = none → x = zeros 24)
        ∧ (∀ o k, s.cal.op = some o → o.kind = .write k → x = [1#8, 1#8, BitVec.ofNat 8 o.station.val, 0#8]
            ++ le 6 o.acceptedAt ++ le 6 o.due ++ le 4 k.circumference ++ le 2 k.mass ++ le 2 k.lines)
        ∧ (∀ o, s.cal.op = some o → o.kind = .lock → x = [1#8, 2#8, BitVec.ofNat 8 o.station.val, 0#8]
            ++ le 6 o.acceptedAt ++ le 6 o.due ++ zeros 8)
        ∧ (s.cal.last = none → y = zeros 8)
        ∧ (∀ d, s.cal.last = some d → y = [if d.wasLock then 2#8 else 1#8, BitVec.ofNat 8 d.station.val]
            ++ le 6 d.at_))
      ∧ ∃ g : Option GroupId,
        exec (.stationRead tag (stationForm n)) s = .next (s.replied 0x1E#8 tag .ok
          ([BitVec.ofNat 8 n.val, BitVec.ofNat 8 t.decode, flagByte t.invert, flagByte t.checkIndex,
              BitVec.ofNat 8 t.tolerance, BitVec.ofNat 8 t.classes.toNat, flagByte t.autoRenegotiate,
              flagByte t.linkEnable] ++ le 4 t.overspeedLimit ++ le 2 t.forceLimit ++ le 2 t.mismatchLimit
            ++ [flagByte g.isSome, BitVec.ofNat 8 ((g.map (·.val)).getD 0)]))
          ∧ (g = none ↔ s.memberOf n (· != .undefined) = false)
          ∧ (∀ x, g = some x → (s.groups.get x).state ≠ .undefined ∧ (s.groups.get x).hasMember n = true)

/-- R56, R57, R18, R31 (log 14 for the offer run): STATION SET. -/
def Obligations.StationSet : Prop :=
  ∀ (s : State) (tag : Byte) (n : Station) (t : Settings), PortIdle s → t.InRange →
    let old := s.settings.get n
    let l := s.links.get n
    let restart := (l.state = .acknowledge ∨ l.state = .confirm)
      ∧ (old.classes ≠ t.classes ∨ old.forceLimit / 100 ≠ t.forceLimit / 100)
    let replaced (x : Link) : State :=
      { s with settings := s.settings.set n { t with linkEnable := old.linkEnable },
               units := s.units.set n (s.units.get n).restarted, links := s.links.set n x }
    (s.memberOf n (· != .undefined) = true → exec (.stationSet tag (stationSetForm n t)) s
        = .next (settle (s.replied 0x1D#8 tag .state [])))
      ∧ (s.memberOf n (· != .undefined) = false → restart → exec (.stationSet tag (stationSetForm n t)) s
        = .next (settle ((replaced (l.returned none)).repliedOk 0x1D#8 tag)))
      ∧ (s.memberOf n (· != .undefined) = false → ¬ restart → exec (.stationSet tag (stationSetForm n t)) s
        = .next (settle ((replaced l).repliedOk 0x1D#8 tag)))

/-! ## Coupling groups -/

/-- R66, R67, R68, R69: GROUP DEFINE, GROUP TUNE and GROUP READ. -/
def Obligations.GroupDefineTuneRead : Prop :=
  ∀ (s : State) (tag : Byte) (g : GroupId), PortIdle s →
    let x := s.groups.get g
    (∀ d : GroupDef, d.InRange →
      let taken := ∃ m ∈ d.members, ∃ h ∈ allFour, h ≠ g ∧ (s.groups.get h).state ≠ .undefined
        ∧ (s.groups.get h).hasMember m.station = true
      let fresh : Group :=
        { x with state := .free, defn := some d, offsets := none, history := List.replicate 8 0, rampProgress := 0,
                 confirm := 0, periodSeq := 0#32 }
      let emptied : Ring := { slots := List.replicate 32 none, next := 0, frozen := false }
      ((x.state ≠ .undefined ∧ x.state ≠ .free) ∨ taken → exec (.groupDefine tag (groupDefineForm g d)) s
          = .next (settle (s.replied 0x20#8 tag .state [])))
        ∧ (x.state = .undefined ∨ x.state = .free → ¬ taken → exec (.groupDefine tag (groupDefineForm g d)) s
          = .next (settle (({ s with
              groups := s.groups.set g fresh, posted := zeroedFor d.members s.posted,
              rings := s.rings.set g emptied } : State).repliedOk 0x20#8 tag))))
      ∧ (∀ t : Tuning, t.InRange →
        (x.state = .undefined → exec (.groupTune tag (groupTuneForm g t)) s
            = .next (settle (s.replied 0x21#8 tag .state [])))
          ∧ (∀ d, x.state ≠ .undefined → x.defn = some d → exec (.groupTune tag (groupTuneForm g t)) s
            = .next (settle (({ s with
                groups := s.groups.set g { x with defn := some { d with tuning := t } } } : State).repliedOk
                0x21#8 tag))))
      ∧ (x.state = .undefined → exec (.groupRead tag (groupReadForm g)) s
          = .next (settle (s.replied 0x22#8 tag .ok (zeros 112))))
      ∧ ∀ d, x.state ≠ .undefined → x.defn = some d →
        let perMille : Nat := if d.ramp = 0 then 1000 else x.rampProgress * 1000 / (d.ramp * 1000)
        exec (.groupRead tag (groupReadForm g)) s = .next (settle (s.replied 0x22#8 tag .ok
          ([BitVec.ofNat 8 (groupStateCode x.state)] ++ (groupDefineForm g d).drop 1
            ++ [flagByte x.offsets.isSome, BitVec.ofNat 8 x.confirm, flagByte x.openSlip.isSome,
              flagByte x.periodDue.isSome, flagByte x.engageDue.isSome, 0#8]
            ++ le 2 ((x.openSlip.map (·.seq.toNat)).getD 0)
            ++ fourFields (fun v => le 8 v) ((x.offsets.getD []).map fun v => (v.emod (2 ^ 64)).toNat)
            ++ le 4 x.rampProgress ++ le 2 perMille ++ [0#8, 0#8] ++ le 4 x.periodSeq.toNat
            ++ fourFields (fun v => le 2 v) (d.members.map fun m => ((s.posted.get m.station).emod 65536).toNat)
            ++ le 6 (x.periodDue.getD 0) ++ le 6 (x.engageDue.getD 0))))

/-- R70, R71, R73, R166: ENGAGE is refused by the first cause that applies, or starts the group; the engage timeout. -/
def Obligations.EngageAndItsTimeout : Prop :=
  (∀ (s : State) (tag : Byte) (g : GroupId), PortIdle s →
    let x := s.groups.get g
    (x.state ≠ .free → x.state ≠ .held → exec (.engage tag (groupForm g)) s
        = .next (settle (s.replied 0x23#8 tag .state [])))
      ∧ ∀ d, x.state = .free ∨ x.state = .held → x.defn = some d →
        let noLink := d.members.any fun m => !((s.links.get m.station).state == .up && (s.links.get m.station).ready)
        let slow := d.members.any fun m =>
          (s.links.get m.station).mode.any fun u => decide (d.period < u.cls.period)
        let denied := d.members.any fun m => !s.permit.mask.getLsbD m.station.val
        let unusable := d.members.any fun m =>
          !(s.cal.records.get m.station).valid || s.cal.writing m.station
        let unlocked := d.members.any fun m => !(s.cal.records.get m.station).locked
        let speeds := d.members.map fun m => (s.units.get m.station).speed
        let ref := clamp32 (match d.kind with
          | .linked => speeds.headD 0
          | .averaged => Int.tdiv speeds.sum speeds.length)
        let started : Group :=
          { x with state := .engaging, offsets := some (d.members.map fun m => (s.units.get m.station).travel),
                   history := List.replicate 8 ref, rampProgress := 0, confirm := 0,
                   periodDue := some (s.clock + d.period), engageDue := some (s.clock + d.engageTimeout * 1000),
                   engagedAt := some s.clock }
        exec (.engage tag (groupForm g)) s = .next (settle (
          if s.mon.tripOut then s.replied 0x23#8 tag .tripped []
          else if noLink then s.replied 0x23#8 tag .noLink []
          else if slow then s.replied 0x23#8 tag .mismatch []
          else if denied || unusable then s.replied 0x23#8 tag .state []
          else ({ s with
              groups := s.groups.set g started, rings := s.rings.set g { s.rings.get g with frozen := false },
              mon := { s.mon with alerts := { s.mon.alerts with
                calUnlocked := s.mon.alerts.calUnlocked || unlocked } } } : State).repliedOk 0x23#8 tag)))
    ∧
  ∀ (s : State) (g : GroupId) (a : CellTime),
    let x := s.groups.get g
    let r := s.writtenRecord g .engageTimeout a .timeout
    let freed : Group := { x with state := .free, periodDue := none, engageDue := none, sync := false }
    x.state = .engaging → x.engagedAt = some a → Reached s x.engageDue →
      exec (.engageTimerExpiry g) s = .next (settle (windowCause g (some r) none
        { logRecord r s.countedExcursion with
          groups := s.groups.set g freed, posted := zeroedFor x.members s.posted }))

/-- R74, R75, R127, R173 (log 12 for the first cause, the limit and the open time of a window that DISBAND closes: they are
kept in its last verdict alone): RELEASE and DISBAND. -/
def Obligations.ReleaseAndDisband : Prop :=
  ∀ (s : State) (tag : Byte) (g : GroupId), PortIdle s →
    let x := s.groups.get g
    let released (u : State) : State :=
      { u with groups := u.groups.set g x.releasedBy, posted := zeroedFor x.members s.posted }
    let freeable := x.state.running = true ∨ (x.state = .tripped ∧ s.mon.tripOut = false)
    (x.state = .undefined ∨ x.state = .free → exec (.release tag (groupForm g)) s
        = .next (settle (s.replied 0x24#8 tag .state [])))
      ∧ (x.state = .tripped → s.mon.tripOut = true → exec (.release tag (groupForm g)) s
        = .next (settle (s.replied 0x24#8 tag .tripped [])))
      ∧ (freeable → x.openSlip = none → exec (.release tag (groupForm g)) s
        = .next (settle ((windowCause g none (some .release) (released s)).repliedOk 0x24#8 tag)))
      ∧ (freeable → ∀ o, x.openSlip = some o → exec (.release tag (groupForm g)) s
        = .next (settle ((windowCause g (some (o.closed g s.clock .released)) (some .release)
            (released (logRecord (o.closed g s.clock .released) s))).repliedOk 0x24#8 tag)))
      ∧ (x.state ≠ .free → exec (.disband tag (groupForm g)) s
        = .next (settle (s.replied 0x25#8 tag .state [])))
      ∧ (x.state = .free →
        let w := s.windows.get g
        let gone : Group := { x with state := .undefined, defn := none, periodDue := none, engageDue := none,
                                     sync := false }
        let idle : Schedule := { state := .idle, active := none, activatedAt := none, endsAt := none, applied := none,
                                 blend := none, late := (s.scheds.get g).late }
        let first : Option Cause :=
          if w.state = .openValid then some { kind := .disband, at_ := s.clock, seq := none } else w.cause
        let shut : Window :=
          if w.state = .closed then w
          else { state := .closed, limit := 0, openedAt := 0, cause := none,
                 last := some { invalid := true, cause := first, limit := w.limit, openedAt := w.openedAt,
                                closedAt := s.clock, byDisband := true } }
        exec (.disband tag (groupForm g)) s = .next (settle (({ s with
          groups := s.groups.set g gone, posted := zeroedFor x.members s.posted,
          road := { s.road with
            resolved := s.road.resolved.filter fun y => y.seg.group != g,
            unresolved := s.road.unresolved.filter fun y => y.group != g },
          scheds := s.scheds.set g idle, windows := s.windows.set g shut } : State).repliedOk 0x25#8 tag)))

/-! ## The control period -/

/-- R86, R88, R89, R90, R100, with the ranges of R87: readings, reference, errors and sync error. A missing force
ceiling reads as 0 (log 24), and the master's errors are 0 outright (log 21). -/
def Obligations.ReferenceErrorsAndSyncError : Prop :=
  (∀ (s : State) (ms : List Member) (os : List Int), ms.length = os.length →
      readings s ms os = (ms.zip os).map fun x =>
        { station := x.1.station, share := x.1.share, rel := (s.units.get x.1.station).travel - x.2,
          speed := (s.units.get x.1.station).speed, mass := (s.cal.records.get x.1.station).mass,
          ceiling := (s.links.get x.1.station).ceiling.getD 0 })
    ∧ (∀ (r : Reading) (fs : List Reading),
      let b := periodBase .linked (r :: fs)
      b.refSpeed = clamp32 r.speed
        ∧ b.errors = { pos := 0, spd := 0 } :: fs.map fun f =>
            { pos := clamp64 (clamp64 r.rel - f.rel), spd := clamp32 (clamp32 r.speed - f.speed) })
    ∧ (∀ rs : List Reading, rs ≠ [] →
      let b := periodBase .averaged rs
      let p := clamp64 (Int.tdiv (rs.map (·.rel)).sum rs.length)
      let v := clamp32 (Int.tdiv (rs.map (·.speed)).sum rs.length)
      b.refSpeed = v ∧ b.errors = rs.map fun f => { pos := clamp64 (p - f.rel), spd := clamp32 (v - f.speed) })
    ∧ ∀ (k : GroupKind) (rs : List Reading),
      let b := periodBase k rs
      b.maxPos = min ((b.errors.map fun e => e.pos.natAbs).foldl max 0) 4294967295
        ∧ b.maxSpd = min ((b.errors.map fun e => e.spd.natAbs).foldl max 0) 4294967295

/-- R92, with R91's raw correction: the corrections of a LINKED group. -/
def Obligations.LinkedCorrectionsAreClamped : Prop :=
  ∀ (t : Tuning) (p q : Nat) (e : Errors) (es : List Errors),
    let raw (x : Errors) : Int := clamp32 (Int.tdiv (p * (t.kp * x.pos + 1000 * t.kd * x.spd)) (1000 * q))
    let limit : Int := t.correctionLimit
    let c := corrections .linked t (p, q) (e :: es)
    c.values = 0 :: es.map (fun x => max (-limit) (min limit (raw x)))
      ∧ c.scaled = false
      ∧ (c.limited = true ↔ ∃ x ∈ es, raw x < -limit ∨ limit < raw x)

/-- R93 (log 13 for the last member's 32-bit range): the corrections of an AVERAGED group sum to zero. -/
def Obligations.AveragedCorrectionsSumToZero : Prop :=
  ∀ (t : Tuning) (p q : Nat) (es : List Errors), 2 ≤ es.length →
    let raws := es.dropLast.map fun x => clamp32 (Int.tdiv (p * (t.kp * x.pos + 1000 * t.kd * x.spd)) (1000 * q))
    let formed := raws ++ [-raws.sum]
    let m := (formed.map Int.natAbs).foldl max 0
    let scaled := raws.map fun x => Int.tdiv (x * t.correctionLimit) m
    let c := corrections .averaged t (p, q) es
    c.values.sum = 0 ∧ c.values.length = es.length ∧ c.limited = false
      ∧ (m ≤ t.correctionLimit → c.values = formed ∧ c.scaled = false)
      ∧ (t.correctionLimit < m → c.values = scaled ++ [-scaled.sum] ∧ c.scaled = true)
      ∧ (∀ x ∈ c.values.dropLast, x.natAbs ≤ t.correctionLimit)
      ∧ (∀ x ∈ c.values, x.natAbs ≤ t.correctionLimit + (es.length - 2))

/-- R94, R96: the road-load force is the exact sum of the five terms times the ramp fraction, rounded toward zero once
and held in the signed 32-bit range; the acceleration handed to the ring. -/
def Obligations.RoadLoadForceIsTheRoundedSum : Prop :=
  ∀ (k : Coeffs) (v dv : Int) (mass period p q : Nat), 0 < period → 0 < q →
    let whole (x : ℚ) : Int := if 0 ≤ x then ⌊x⌋ else ⌈x⌉
    let sum : ℚ := (k.a : ℚ) / 10 + (k.b : ℚ) * v / 100000 + (k.c : ℚ) * v * |(v : ℚ)| / 10000000000
      + ((k.mass : ℚ) - mass) * dv * 1000 / (8 * period) + k.grade
    roadLoadForce k v dv mass period (p, q) = clamp32 (whole (sum * ((p : ℚ) / q)))
      ∧ ringAcceleration dv period = clamp32 (whole ((dv : ℚ) * 1000000 / (8 * period)))

/-- R97: the members' road-load shares. -/
def Obligations.RoadSharesSumToTheForce : Prop :=
  ∀ (force : Int) (shares : List Nat) (last : Nat),
    let r := roadShares force (shares ++ [last])
    r.sum = force
      ∧ r = shares.map (fun p => Int.tdiv (force * (p : Int)) 1000)
          ++ [force - (shares.map fun p => Int.tdiv (force * (p : Int)) 1000).sum]
      ∧ (force = 0 → ∀ x ∈ r, x = 0)
      ∧ (shares.sum + last = 1000 →
          (1000 * (force - (shares.map fun p => Int.tdiv (force * (p : Int)) 1000).sum) - force * last).natAbs
            ≤ 1000 * shares.length)

/-- R91, R95, R96, R97, R98: the force, demands and flags of a driving period, and each demand's ceiling. -/
def Obligations.DemandsStayWithinTheirCeilings : Prop :=
  (∀ (ss cs : List Int) (ls : List Nat), ss.length = cs.length → cs.length = ls.length →
      (demands ss cs ls).1 = (ss.zip (cs.zip ls)).map
          (fun x => max (-(x.2.2 : Int)) (min (x.2.2 : Int) (x.1 + x.2.1)))
        ∧ ((demands ss cs ls).2 = true ↔ ∃ x ∈ ss.zip (cs.zip ls), x.2.2 < (x.1 + x.2.1).natAbs))
    ∧ ∀ (d : GroupDef) (engaging : Bool) (pq : Nat × Nat) (history : List Int) (applied : Option Coeffs)
        (rs : List Reading) (b : PeriodBase),
      let v := periodDrive d engaging pq history applied rs b
      let dv := b.refSpeed - history.headD 0
      let c := corrections d.kind d.tuning pq b.errors
      v.force = (match applied with
          | none => 0
          | some k => roadLoadForce k b.refSpeed dv (rs.map (·.mass)).sum d.period (if engaging then pq else (1, 1)))
        ∧ v.accel = ringAcceleration dv d.period ∧ v.scaled = c.scaled ∧ v.limited = c.limited
        ∧ (v.demands, v.demandLimited)
          = demands (roadShares v.force (rs.map (·.share))) c.values (rs.map (·.ceiling))

/-- R85, R91, R94, R99, R101 to R106, R108, R164, R165: a control period in ENGAGING, LOCKED, SLIPPING and HELD. A missing
offset or force ceiling, which no run leaves in these states, reads as 0 (log 24). -/
def Obligations.ControlPeriod : Prop :=
  (∀ (s : State) (g : GroupId) (d : GroupDef) (offs : List Int),
    let x := s.groups.get g
    let rs := readings s d.members offs
    let pq : Nat × Nat := if d.ramp = 0 then (1, 1) else (x.rampProgress, d.ramp * 1000)
    let b := periodBase d.kind rs
    let v := periodDrive d (x.state == .engaging) pq x.history (s.scheds.get g).applied rs b
    let inside := b.maxPos ≤ d.tuning.lockPosition ∧ b.maxSpd ≤ d.tuning.lockSpeed
    let relock := 4 * b.maxPos ≤ 3 * d.tuning.lockPosition ∧ 4 * b.maxSpd ≤ 3 * d.tuning.lockSpeed
    let entry (st : GroupState) : RingEntry :=
      { seq := x.periodSeq, at_ := s.clock, state := st, refSpeed := b.refSpeed, accel := v.accel, force := v.force,
        maxPosition := b.maxPos, maxSpeed := b.maxSpd, scaled := v.scaled, limited := v.limited,
        demandLimited := v.demandLimited, ramping := decide (pq.1 ≠ pq.2) }
    let after (y : Group) : Group :=
      { y with history := x.history.tail ++ [b.refSpeed],
               sync := decide (d.tuning.tripPosition < b.maxPos ∨ d.tuning.tripSpeed < b.maxSpd),
               rampProgress := min (x.rampProgress + d.period) (d.ramp * 1000), periodSeq := x.periodSeq + 1#32,
               periodDue := some (s.clock + d.period) }
    let left (y : Group) (u : State) : State :=
      { u with posted := postedTo d.members v.demands s.posted, groups := s.groups.set g (after y),
               rings := s.rings.set g ((s.rings.get g).taken (entry y.state)) }
    let becomes (u : State) : Prop := exec (.periodTimerExpiry g) s = .next (settle u)
    x.defn = some d → x.offsets = some offs → Reached s x.periodDue →
      (x.state = .engaging →
          let c := if inside then (if pq.1 = pq.2 then x.confirm + 1 else x.confirm) else 0
          (c ≠ 8 → becomes (left { x with confirm := c } s))
            ∧ (c = 8 → becomes (left { x with confirm := 8, state := .locked, engageDue := none } s)))
        ∧ (x.state = .locked →
          let o : OpenSlip := { seq := s.exc.counter, start := s.clock, peakPosition := b.maxPos,
                                peakSpeed := b.maxSpd, tag := (s.scheds.get g).activeTag }
          (inside → becomes (left x s))
            ∧ (¬ inside → becomes (left { x with state := .slipping, openSlip := some o } s.countedExcursion)))
        ∧ (x.state = .slipping → ∀ o, x.openSlip = some o →
          let o' : OpenSlip := { o with peakPosition := max o.peakPosition b.maxPos,
                                        peakSpeed := max o.peakSpeed b.maxSpd }
          let r := o'.closed g s.clock .recovered
          (¬ relock → becomes (left { x with openSlip := some o' } s))
            ∧ (relock → becomes (windowCause g (some r) none
                (left { x with openSlip := none, state := .locked } (logRecord r s))))))
    ∧
  ∀ (s : State) (g : GroupId) (d : GroupDef) (offs : List Int),
    let x := s.groups.get g
    let b := periodBase d.kind (readings s d.members offs)
    let entry : RingEntry :=
      { seq := x.periodSeq, at_ := s.clock, state := .held, refSpeed := b.refSpeed, accel := 0, force := 0,
        maxPosition := b.maxPos, maxSpeed := b.maxSpd, scaled := false, limited := false, demandLimited := false,
        ramping := false }
    let after : Group :=
      { x with sync := decide (d.tuning.tripPosition < b.maxPos ∨ d.tuning.tripSpeed < b.maxSpd), rampProgress := 0,
               periodSeq := x.periodSeq + 1#32, periodDue := some (s.clock + d.period) }
    x.state = .held → x.defn = some d → x.offsets = some offs → Reached s x.periodDue →
      exec (.periodTimerExpiry g) s = .next (settle { s with
        posted := zeroedFor d.members s.posted, groups := s.groups.set g after,
        rings := s.rings.set g ((s.rings.get g).taken entry) })

/-! ## Road-load scheduler -/

/-- R110, R111, R112, R116: SEGMENT QUEUE. The from-coefficients of a blend that supersedes at one instant (log 30), and a
head already due that activates in this event (log 31), are the model's choices. -/
def Obligations.SegmentQueue : Prop :=
  ∀ (s : State) (tag : Byte) (x : Segment) (grade ramp : Bool), Settled s → PortIdle s → QueueOrdered s →
    x.InRange → (grade = false → x.coeffs.grade = 0) → (ramp = false → x.ramp = 0) →
    let i : Instr := .segmentQueue tag (segmentForm x grade ramp)
    let y : Segment := { x with arrival := s.road.nextArrival }
    let pending := s.road.resolved.length + s.road.unresolved.length
    let resolvesTo (due : CellTime) : Prop :=
      ∃ q : List Resolved, q.Perm ({ seg := y, due := due } :: s.road.resolved) ∧ InStartOrder q
        ∧ (s.clock < due → exec i s = .next (({ s with
            road := { s.road with resolved := q, nextArrival := s.road.nextArrival + 1 } } : State).replied
            0x28#8 tag .ok (le 4 s.road.nextArrival ++ [0#8, 0#8])))
        ∧ (due ≤ s.clock → exec i s = .next (({ s with
            road := { s.road with resolved := stillPending s.clock q, nextArrival := s.road.nextArrival + 1 },
            scheds := activatedBy s.clock q s.scheds } : State).replied
            0x28#8 tag .ok (le 4 s.road.nextArrival ++ [2#8, 0#8])))
    ((s.groups.get x.group).state = .undefined → exec i s = .next (s.replied 0x28#8 tag .state []))
      ∧ ((s.groups.get x.group).state ≠ .undefined → 24 ≤ pending → exec i s = .next (s.replied 0x28#8 tag .full []))
      ∧ ((s.groups.get x.group).state ≠ .undefined → pending < 24 →
        (x.basis = .absolute → resolvesTo x.start)
          ∧ (x.basis = .mark → s.mark.valid = true → ∀ m, s.mark.time = some m → resolvesTo (m + x.start))
          ∧ (x.basis = .mark → s.mark.valid = false → exec i s = .next (({ s with
              road := { s.road with unresolved := s.road.unresolved ++ [y],
                                    nextArrival := s.road.nextArrival + 1 } } : State).replied
              0x28#8 tag .ok (le 4 s.road.nextArrival ++ [1#8, 0#8]))))

/-- R125, R126, R128: SEGMENT FLUSH and SEGMENT CANCEL remove pending segments and say how many; SCHEDULE READ returns
the four schedules and clears the late-activation counters. -/
def Obligations.SegmentRemovalAndScheduleRead : Prop :=
  (∀ (s : State) (tag : Byte), Settled s → PortIdle s →
    let kept (keep : Segment → Bool) : RoadQueue :=
      { s.road with resolved := s.road.resolved.filter fun x => keep x.seg,
                    unresolved := s.road.unresolved.filter keep }
    let removed (keep : Segment → Bool) : Nat :=
      (s.road.resolved.filter fun x => !keep x.seg).length + (s.road.unresolved.filter fun x => !keep x).length
    (∀ g : GroupId, exec (.segmentFlush tag (groupForm g)) s
        = .next (({ s with road := kept fun x => x.group != g } : State).replied 0x29#8 tag .ok
            [BitVec.ofNat 8 (removed fun x => x.group != g), 0#8]))
      ∧ ∀ v : Nat, v < 65536 → exec (.segmentCancel tag (tagForm v)) s
        = .next (({ s with road := kept fun x => x.tag != v } : State).replied 0x2A#8 tag .ok
            [BitVec.ofNat 8 (removed fun x => x.tag != v), 0#8]))
    ∧
  ∀ (s : State) (tag : Byte), Settled s → PortIdle s →
    let pending := s.road.resolved.length + s.road.unresolved.length
    let block (g : GroupId) : List Byte :=
      let x := s.scheds.get g
      let rem : Option Nat := match x.state with
        | .idle => none
        | .active => x.endsAt.map fun e => e - s.clock
        | .dry => some 0
      let k := x.applied.getD { a := 0, b := 0, c := 0, mass := 0, grade := 0 }
      [BitVec.ofNat 8 (scheduleStateCode x.state), flagByte (x.state == .dry),
          BitVec.ofNat 8 (bitsToNat [x.activeTag.isSome, x.activatedAt.isSome, rem.isSome, x.blend.isSome,
            x.applied.isSome]),
          BitVec.ofNat 8 (s.road.resolved.filter fun y => y.seg.group == g).length,
          BitVec.ofNat 8 (s.road.unresolved.filter fun y => y.group == g).length, 0#8]
        ++ le 2 (x.activeTag.getD 0) ++ le 6 (x.activatedAt.getD 0) ++ le 4 (rem.getD 0)
        ++ le 2 ((x.blend.map (·.elapsed)).getD 0) ++ le 2 ((x.blend.map (·.ramp)).getD 0)
        ++ leInt 4 k.a ++ leInt 4 k.b ++ leInt 4 k.c ++ leInt 2 k.mass ++ leInt 2 k.grade ++ le 2 x.late
    exec (.scheduleRead tag []) s
      = .next (({ s with scheds := Quad.ofFn fun g => { s.scheds.get g with late := 0 } } : State).replied 0x2B#8 tag
          .ok (block 0 ++ block 1 ++ block 2 ++ block 3
            ++ [BitVec.ofNat 8 pending, BitVec.ofNat 8 (24 - pending), flagByte s.road.resolved.head?.isSome, 0#8]
            ++ le 6 ((s.road.resolved.head?.map (·.due)).getD 0)))

/-- R116 to R122: an activation, a blend step and a duration end. The from-coefficients of a blend that supersedes at one
instant are the model's choice (log 30). -/
def Obligations.ScheduleEvents : Prop :=
  ∀ s : State,
    ((∃ x ∈ s.road.resolved.head?.toList, x.due ≤ s.clock) → Settled s → exec .segmentActivation s
        = .next { s with road := { s.road with resolved := stillPending s.clock s.road.resolved },
                         scheds := activatedBy s.clock s.road.resolved s.scheds })
      ∧ (∀ (g : GroupId) (b : Blend) (a : CellTime),
        let x := s.scheds.get g
        let e := b.elapsed + 1
        let step : Coeffs :=
          { a := blendedAt b.source.a b.target.a e b.ramp, b := blendedAt b.source.b b.target.b e b.ramp,
            c := blendedAt b.source.c b.target.c e b.ramp, mass := blendedAt b.source.mass b.target.mass e b.ramp,
            grade := blendedAt b.source.grade b.target.grade e b.ramp }
        x.blend = some b → x.activatedAt = some a → a + e * 1000 ≤ s.clock → Settled s →
          let going : Schedule := { x with applied := some step, blend := some { b with elapsed := e } }
          let ended : Schedule := { x with applied := some b.target, blend := none }
          (e < b.ramp → exec (.blendStep g) s = .next { s with scheds := s.scheds.set g going })
            ∧ (b.ramp ≤ e → exec (.blendStep g) s = .next { s with scheds := s.scheds.set g ended }))
      ∧ ∀ g : GroupId,
        let x := s.scheds.get g
        let alerts : Alerts := { s.mon.alerts with scheduleDry := s.mon.alerts.scheduleDry.set g true }
        x.state = .active → Reached s x.endsAt → exec (.durationEnd g) s
          = .next (settle (windowCause g none (some .dry) { s with
              scheds := s.scheds.set g { x with state := .dry, blend := none },
              mon := { s.mon with alerts := alerts } }))

/-! ## Torque permits -/

/-- R131, R132, R133, R134, R135, R136, R140: the permit requests and the expiry of the permit timer. The order of the
claims of one event is the model's choice (log 6). -/
def Obligations.TorquePermits : Prop :=
  ∀ (s : State) (tag : Byte) (m : BitVec 4), PortIdle s →
    let p := s.permit
    let granted : Permit :=
      { p with mask := m, due := if m = 0#4 then none
                                 else if p.mask = 0#4 then some (s.clock + p.time * 1000) else p.due }
    (∀ v : Nat, 100 ≤ v → v ≤ 60000 → exec (.permitTime tag (permitTimeForm v)) s
        = .next (settle (({ s with permit := { p with time := v } } : State).repliedOk 0x30#8 tag)))
      ∧ exec (.permitGrant tag (maskForm m)) s = .next (settle (
        if m ≠ 0#4 ∧ s.mon.tripOut = true then s.replied 0x31#8 tag .tripped []
        else if m ≠ 0#4 ∧ p.time = 0 then s.replied 0x31#8 tag .state []
        else (claimRemoved (p.mask &&& ~~~m) { s with permit := granted }).repliedOk 0x31#8 tag))
      ∧ exec (.permitRenew tag (maskForm m)) s = .next (settle (
        if p.due.isSome = true ∧ m = p.mask then
          ({ s with permit := { p with due := some (s.clock + p.time * 1000) } } : State).repliedOk 0x32#8 tag
        else s.replied 0x32#8 tag .mismatch []))
      ∧ exec (.permitRead tag []) s = .next (settle (s.replied 0x33#8 tag .ok
          ([BitVec.ofNat 8 p.mask.toNat, flagByte p.due.isSome] ++ le 2 p.time ++ le 6 (p.due.getD 0)
            ++ le 4 ((p.due.map fun d => d - s.clock).getD 0) ++ le 6 s.clock)))
      ∧ (Reached s p.due → exec .permitTimerExpiry s = .next (settle (claimRemoved p.mask { s with
          permit := { p with mask := 0#4, due := none },
          mon := { s.mon with alerts := { s.mon.alerts with permitExpired := true } } })))

/-! ## Protection monitor -/

/-- R143, R145, R150, R151: a filter timer's expiry, the two safety inputs and the forced flags. -/
def Obligations.FilterExpirySafetyInputsAndForcedFlags : Prop :=
  ∀ s : State,
    (∀ i : FilteredId, (s.mon.flags.get i).state = .pending → Reached s (s.mon.flags.get i).due →
        ∃ fl : FilteredFlags, exec (.filterTimerExpiry i) s = .next (settle { s with mon := { s.mon with flags := fl } })
          ∧ fl.get i = { state := .latched, due := none, level := (s.mon.flags.get i).level }
          ∧ ∀ j, j ≠ i → fl.get j = s.mon.flags.get j)
      ∧ (∀ level : Bool, exec (.tripInChange level) s
          = .next (settle { s with mon := { s.mon with tripIn := level } }))
      ∧ (s.mon.estopIn = false → exec (.estopInChange true) s
          = .next (settle { s with mon := { s.mon with estopIn := true, estop := true } }))
      ∧ exec (.estopInChange false) s = .next (settle { s with mon := { s.mon with estopIn := false } })
      ∧ ∀ (tag : Byte) (trip alert : Bool), PortIdle s → exec (.forceSet tag (forceSetForm trip alert)) s
          = .next (settle (({ s with mon := { s.mon with forceTrip := trip, forceAlert := alert } } : State).repliedOk
              0x3C#8 tag))

/-- R148, R149: FILTER SET and SOURCE ENABLE. -/
def Obligations.FilterSetAndSourceEnable : Prop :=
  ∀ (s : State) (tag : Byte) (k : FilterKind), PortIdle s →
    let old := s.mon.times.get k
    let was := s.mon.enabled.get k
    (∀ v : Nat, v ≤ 30000 → ∃ fl : FilteredFlags,
        exec (.filterSet tag (filterSetForm k v)) s = .next (settle (({ s with
            mon := { s.mon with times := s.mon.times.set k v, flags := fl } } : State).repliedOk 0x38#8 tag))
          ∧ ∀ i, let f := s.mon.flags.get i
            fl.get i =
              if i.kind = k ∧ was = true ∧ v = 0 ∧ old ≠ 0 ∧ f.state = .pending then { f with state := .clear, due := none }
              else if i.kind = k ∧ was = true ∧ v ≠ 0 ∧ old = 0 ∧ f.state = .clear ∧ f.level = true then
                { f with state := .latched }
              else f)
      ∧ ∀ on : Bool, ∃ fl : FilteredFlags,
        exec (.sourceEnable tag (sourceEnableForm k on)) s = .next (settle (({ s with
            mon := { s.mon with enabled := s.mon.enabled.set k on, flags := fl } } : State).repliedOk 0x39#8 tag))
          ∧ ∀ i, let f := s.mon.flags.get i
            fl.get i =
              if i.kind = k ∧ on = false then { f with state := .clear, due := none }
              else if i.kind = k ∧ on = true ∧ was = false ∧ f.level = true ∧ old ≠ 0 then
                { f with state := .pending, due := some (s.clock + old * 100) }
              else f

/-- R152, R153, R160, R161: FLAGS CLEAR and its report, NOTICE MASK, FLAGS READ. -/
def Obligations.FlagsClearMaskAndRead : Prop :=
  ∀ (s : State) (tag : Byte) (w : BitVec 34), PortIdle s →
    let a := s.mon.alerts
    let keeps (k : Nat) (held : Bool) : Bool := held && !w.getLsbD k
    (∃ (fl : FilteredFlags) (body : List Byte),
      let m : Monitor :=
        { s.mon with
          flags := fl,
          estop := s.mon.estop && !(w.getLsbD 21 && !s.mon.estopIn),
          alerts := { powerOn := keeps 23 a.powerOn, restart := keeps 24 a.restart,
                      permitExpired := keeps 25 a.permitExpired,
                      scheduleDry := Quad.ofFn fun g => keeps (26 + g.val) (a.scheduleDry.get g),
                      calUnlocked := keeps 30 a.calUnlocked, portCheck := keeps 31 a.portCheck,
                      logLost := keeps 33 a.logLost } }
      exec (.flagsClear tag (flagSetForm w)) s
          = .next (settle (({ s with mon := m } : State).replied 0x3B#8 tag .ok body))
        ∧ (∀ i, let f := s.mon.flags.get i
          fl.get i =
            if w.getLsbD (flagNumber i) = true ∧ f.state = .latched then
              (if f.level = true ∧ s.mon.times.get i.kind ≠ 0 then
                { f with state := .pending, due := some (s.clock + s.mon.times.get i.kind * 100) }
              else { f with state := .clear, due := none })
            else f)
        ∧ body.length = 36
        ∧ (∀ k, k < 34 → w.getLsbD k = false → body.getD k 0#8 = 0xFF#8)
        ∧ (∀ i, w.getLsbD (flagNumber i) = true → body.getD (flagNumber i) 0#8 = (match (fl.get i).state with
            | .pending => 1#8
            | .latched => 2#8
            | .clear => if m.filteredSet i then 3#8 else 0#8))
        ∧ (w.getLsbD 21 = true → body.getD 21 0#8 = if m.estop then 2#8 else 0#8)
        ∧ (w.getLsbD 22 = true → body.getD 22 0#8 = if m.forceTrip then 4#8 else 5#8)
        ∧ (∀ k, 23 ≤ k → k < 34 → k ≠ 32 → w.getLsbD k = true → body.getD k 0#8 = 0#8)
        ∧ (w.getLsbD 32 = true → body.getD 32 0#8 = if m.forceAlert then 4#8 else 5#8)
        ∧ body.drop 34 = [flagByte s.mon.estopIn, 0#8])
      ∧ exec (.noticeMask tag (flagSetForm w)) s
        = .next (settle (({ s with mon := { s.mon with noticeMask := w } } : State).repliedOk 0x3D#8 tag))
      ∧ exec (.flagsRead tag []) s = .next (settle (s.replied 0x3A#8 tag .ok (le 8 s.mon.flagWord.toNat
          ++ (filteredIds.map fun i => BitVec.ofNat 8 (filterStateCode (s.mon.flags.get i).state
            + (if s.mon.filteredSet i then 4 else 0) + (if (s.mon.flags.get i).level then 8 else 0)))
          ++ [if s.mon.estop then 2#8 else 0#8, flagByte s.mon.tripOut, flagByte s.mon.attnOut]
          ++ le 2 s.mon.tripCount ++ [flagByte s.mon.tripIn, flagByte s.mon.estopIn]
          ++ le 2 s.mon.times.overspeed ++ le 2 s.mon.times.encoder ++ le 2 s.mon.times.link
          ++ le 2 s.mon.times.mismatch ++ le 2 s.mon.times.sync ++ le 2 s.mon.times.tripIn
          ++ [BitVec.ofNat 8 (bitsToNat [s.mon.enabled.overspeed, s.mon.enabled.encoder, s.mon.enabled.link,
              s.mon.enabled.mismatch, s.mon.enabled.sync, s.mon.enabled.tripIn]), 0#8]
          ++ le 8 s.mon.noticeMask.toNat ++ le 6 s.clock
          ++ filteredIds.flatMap fun i =>
            if (s.mon.flags.get i).state = .pending then le 6 ((s.mon.flags.get i).due.getD 0) else zeros 6)))

/-! ## Excursion log, validity windows and period rings -/

/-- R168, R171, R174 (log 12 for the first cause of a closed window): EXCURSION FETCH and the requests on windows. -/
def Obligations.LogFetchAndWindows : Prop :=
  ∀ (s : State) (tag : Byte), Settled s → PortIdle s →
    let record (r : ExcRecord) : List Byte :=
      le 2 r.seq.toNat ++ [BitVec.ofNat 8 r.group.val, BitVec.ofNat 8 (excKindCode r.kind),
          BitVec.ofNat 8 (excOutcomeCode r.outcome), flagByte r.tag.isSome]
        ++ le 2 (r.tag.getD 0) ++ le 6 r.start ++ le 6 r.stop ++ le 4 r.peakPosition ++ le 4 r.peakSpeed
    let kindByte (k : CauseKind) : Byte := match k with
      | .duration => 1#8
      | .held => 2#8
      | .tripped => 3#8
      | .timeout => 4#8
      | .dry => 5#8
      | .release => 6#8
      | .disband => 7#8
    let causeBytes (o : Option Cause) : List Byte := match o with
      | none => zeros 10
      | some c => [kindByte c.kind, flagByte c.seq.isSome] ++ le 2 ((c.seq.map (·.toNat)).getD 0) ++ le 6 c.at_
    let verdictBytes (o : Option Verdict) : List Byte := match o with
      | none => zeros 26
      | some x => [flagByte x.invalid, flagByte x.byDisband] ++ le 2 x.limit ++ le 6 x.openedAt ++ le 6 x.closedAt
          ++ causeBytes x.cause
    (∀ v : Nat, v ≤ 8 → exec (.excursionFetch tag (fetchForm v)) s
        = .next (({ s with exc := { s.exc with log := s.exc.log.drop v, lost := 0 } } : State).replied 0x40#8 tag .ok
            ([BitVec.ofNat 8 (min v s.exc.log.length), 0#8] ++ le 2 s.exc.lost ++ (s.exc.log.take v).flatMap record)))
      ∧ ∀ g : GroupId,
        let w := s.windows.get g
        let verdict : Verdict :=
          { invalid := w.state == .openInvalid, cause := w.cause, limit := w.limit, openedAt := w.openedAt,
            closedAt := s.clock, byDisband := false }
        let shut : Window := { state := .closed, limit := 0, openedAt := 0, cause := none, last := some verdict }
        (∀ v : Nat, v ≤ 10000 →
          ((s.groups.get g).state = .undefined ∨ w.state ≠ .closed → exec (.windowOpen tag (windowOpenForm g v)) s
              = .next (s.replied 0x41#8 tag .state []))
            ∧ ((s.groups.get g).state ≠ .undefined → w.state = .closed →
              let opened : Window :=
                { w with state := .openValid, limit := v, openedAt := s.clock, cause := none }
              exec (.windowOpen tag (windowOpenForm g v)) s
                = .next (({ s with windows := s.windows.set g opened } : State).repliedOk 0x41#8 tag)))
          ∧ exec (.windowRead tag (groupForm g)) s
            = .next (s.replied 0x42#8 tag .ok ([BitVec.ofNat 8 (windowStateCode w.state), flagByte w.last.isSome]
                ++ le 2 w.limit ++ le 6 w.openedAt ++ causeBytes w.cause ++ verdictBytes w.last))
          ∧ (w.state = .closed → exec (.windowClose tag (groupForm g)) s
            = .next (s.replied 0x43#8 tag .state []))
          ∧ (w.state ≠ .closed → exec (.windowClose tag (groupForm g)) s
            = .next (({ s with windows := s.windows.set g shut } : State).replied 0x43#8 tag .ok
                (verdictBytes (some verdict))))

/-- R176, R177, R178, R195: the requests on a period ring, with the read sequence of R177 and the 30 bytes of an entry. -/
def Obligations.RingRequests : Prop :=
  ∀ (s : State) (tag : Byte) (g : GroupId), Settled s → PortIdle s →
    let r := s.rings.get g
    let frozen (b : Bool) : State := { s with rings := s.rings.set g { r with frozen := b } }
    let stateBits (x : GroupState) : Nat := match x with
      | .engaging => 1
      | .locked => 2
      | .slipping => 3
      | .held => 4
      | .undefined | .free | .tripped => 0
    let entryBytes (o : Option RingEntry) : List Byte := match o with
      | none => zeros 30
      | some e => [BitVec.ofNat 8 (stateBits e.state + 8 * bitsToNat [e.scaled, e.limited, e.demandLimited, e.ramping])]
          ++ le 4 e.seq.toNat ++ le 6 e.at_ ++ leInt 3 (max (-8388608) (min 8388607 e.refSpeed)) ++ leInt 4 e.accel
          ++ leInt 4 e.force ++ le 4 e.maxPosition ++ le 4 e.maxSpeed
    exec (.ringFreeze tag (groupForm g)) s = .next ((frozen true).repliedOk 0x45#8 tag)
      ∧ exec (.ringUnfreeze tag (groupForm g)) s = .next ((frozen false).repliedOk 0x46#8 tag)
      ∧ ∀ (start length page : Nat) (wrap : Bool), RingRange start length page →
        let place (k : Nat) : Nat :=
          if wrap then (if start % length + k < length then start + k else start + k - length)
          else (start + k) % 32
        exec (.ringRead tag (ringReadForm g start length wrap page)) s
          = .next (s.replied 0x44#8 tag .ok ([flagByte r.frozen, BitVec.ofNat 8 r.next, BitVec.ofNat 8 (place (8 * page))]
              ++ le 4 (s.groups.get g).periodSeq.toNat
              ++ (List.range 8).flatMap fun i => entryBytes (r.slots.getD (place (8 * page + i)) none)))

/-! ## Message port -/

/-- R188, R189, R190, R191, R192: the port's own requests. -/
def Obligations.PortRequests : Prop :=
  ∀ (s : State) (tag : Byte), Settled s → PortIdle s →
    let ordered : Sending := { code := 0x4B#8, tag := tag, reply := { status := .ok, body := [] },
                               due := s.clock + 35, thenReset := true }
    let prepare := s.repliedOk 0x4A#8 tag
    let bits (f : Station → Bool) : Byte := BitVec.ofNat 8 (bitsToNat [f 0, f 1, f 2, f 3])
    exec (.cellStatus tag []) s = .next (s.replied 0x48#8 tag .ok
        ([flagByte s.mon.tripOut, flagByte s.mon.attnOut, BitVec.ofNat 8 s.permit.mask.toNat,
            flagByte s.permit.due.isSome] ++ le 6 (s.permit.due.getD 0)
          ++ allFour.map (fun g => BitVec.ofNat 8 (groupStateCode (s.groups.get g).state))
          ++ allFour.map (fun n => BitVec.ofNat 8 (linkStateCode (s.links.get n).state))
          ++ [bits fun n => (s.settings.get n).linkEnable]
          ++ allFour.map (fun g => BitVec.ofNat 8 (scheduleStateCode (s.scheds.get g).state))
          ++ [flagByte s.mark.armed, flagByte s.mark.valid, flagByte s.cal.op.isSome, flagByte s.port.prepared, 0#8]
          ++ le 6 s.clock))
      ∧ exec (.portCounters tag []) s
        = .next (({ s with port := { s.port with checkCount := 0, framingCount := 0 } } : State).replied 0x49#8 tag .ok
            (le 2 s.port.checkCount ++ le 2 s.port.framingCount))
      ∧ (s.permit.mask = 0#4 → exec (.resetPrepare tag []) s
          = .next { prepare with port := { prepare.port with prepared := true } })
      ∧ (s.permit.mask ≠ 0#4 → exec (.resetPrepare tag []) s = .next (s.replied 0x4A#8 tag .state []))
      ∧ (s.port.prepared = true → exec (.resetExecute tag []) s
          = .next { s with port := { s.port with prepared := false, tx := some ordered } })
      ∧ (s.port.prepared = false → exec (.resetExecute tag []) s = .next (s.replied 0x4B#8 tag .notArmed []))

/-- R44, R51, R158, R162, R192: COLD_RESET, and PORT_RESET at the end of the reply that orders it (log 9), leave every
block at its reset values with the levels of that moment; the calibration records are kept. -/
def Obligations.Resets : Prop :=
  (∀ (s : State) (lines : LineLevels), ∃ t : State, exec (.coldReset lines) s = .next t ∧ AtReset t lines
      ∧ t.mon.alerts = onlyResetAlerts true false ∧ t.cal.records = s.cal.records ∧ t.pending = s.pending)
    ∧ ∀ (s : State) (x : Sending), s.port.tx = some x → x.thenReset = true → x.due ≤ s.clock →
      ∃ t : State, exec .portReset s = .next t ∧ exec .replySent s = .next t
        ∧ AtReset t { encA := Quad.ofFn fun n => (s.units.get n).lineA, encB := Quad.ofFn fun n => (s.units.get n).lineB,
                      tripIn := s.mon.tripIn, estopIn := s.mon.estopIn }
        ∧ t.mon.alerts = onlyResetAlerts false true ∧ t.cal.records = s.cal.records ∧ t.pending = s.pending

/-- R179, R180, R181, R182 (log 5 for MP_FRAME_COMPLETE): the receiver. The gap timer starts
with the first byte after the sync byte. A good
frame is the request row that carries its CODE, TAG and BODY. -/
def Obligations.ReceiverAssemblesAndChecksFrames : Prop :=
  crc16 [0x31#8, 0x32#8, 0x33#8, 0x34#8, 0x35#8, 0x36#8, 0x37#8, 0x38#8, 0x39#8] = 0x29B1#16
    ∧ ∀ (s : State), Settled s →
      let p := s.port
      let hunting : Port := { p with rx := .hunting, gapDue := none }
      let dropped : State := { s with port := { hunting with framingCount := oneMore p.framingCount } }
      let failed : State :=
        { s with port := { hunting with checkCount := oneMore p.checkCount },
                 mon := { s.mon with alerts := { s.mon.alerts with portCheck := true } } }
      (p.rx = .hunting → exec (.mpByteReceived 0xB5#8 false) s
            = .next { s with port := { p with rx := .assembling [], gapDue := none } }
          ∧ (∀ b e, b ≠ 0xB5#8 ∨ e = true → exec (.mpByteReceived b e) s = .next s)
          ∧ ∀ b, exec (.mpFrameComplete b) s = .next s)
        ∧ (∀ bytes, p.rx = .assembling bytes →
          (∀ b, exec (.mpByteReceived b true) s = .next dropped)
            ∧ ∀ b : Byte,
              let all := bytes ++ [b]
              let len := (all.getD 0 0#8).toNat
              (250 < len → exec (.mpByteReceived b false) s = .next dropped)
                ∧ (len ≤ 250 → all.length ≠ len + 5 → exec (.mpByteReceived b false) s
                    = .next { s with port := { p with rx := .assembling all, gapDue := some (s.clock + 2000) } })
                ∧ (len ≤ 250 → all.length = len + 5 → all.drop (len + 3) ≠ le 2 (crc16 (all.take (len + 3))).toNat →
                    exec (.mpByteReceived b false) s = .next (settle failed)
                      ∧ exec (.mpFrameComplete b) s = .next (settle failed))
                ∧ (len ≤ 250 → all.length = len + 5 → all.drop (len + 3) = le 2 (crc16 (all.take (len + 3))).toNat →
                    ∀ i : Instr, i.frame? = some ⟨all.getD 2 0#8, all.getD 1 0#8, (all.drop 3).take len⟩ →
                      ∃ t : State, exec i { s with port := hunting } = .next t
                        ∧ exec (.mpByteReceived b false) s = .next t ∧ exec (.mpFrameComplete b) s = .next t)
                ∧ (len ≤ 250 → all.length ≠ len + 5 → exec (.mpFrameComplete b) s = .next s))
        ∧ (Reached s p.gapDue → exec .gapTimerExpiry s = .next dropped)

/-- R182, R183: a good frame waits while a reply is on the line, a full queue discards it, and the end of a reply takes
the oldest frame. -/
def Obligations.FramesWaitAndAreTakenInOrder : Prop :=
  ∀ (s : State), Settled s →
    (∀ (i : Instr) (f : Frame) (x : Sending), i.frame? = some f → s.port.tx = some x →
        (s.port.queue.length < 4 →
            exec i s = .next { s with port := { s.port with queue := s.port.queue ++ [f] } })
          ∧ (4 ≤ s.port.queue.length →
            exec i s = .next { s with port := { s.port with framingCount := oneMore s.port.framingCount } }))
      ∧ ∀ x : Sending, s.port.tx = some x → x.due ≤ s.clock → x.thenReset = false →
        (s.port.queue = [] → exec .replySent s = .next { s with port := { s.port with tx := none } })
          ∧ ∀ (f : Frame) (rest : List Frame) (i : Instr), s.port.queue = f :: rest → i.frame? = some f →
            ∃ t u : State, exec i { s with port := { s.port with tx := none, queue := [] } } = .next t
              ∧ exec .replySent s = .next u ∧ u = { t with port := { t.port with queue := rest } }

/-- R186: the classes of requests. Every body of a request is of its valid form, or is refused with BAD_LENGTH or
BAD_VALUE. -/
def Obligations.InvalidFormsAreRefused : Prop :=
  ∀ (s : State) (tag : Byte) (b : List Byte), Settled s → PortIdle s →
    (∀ c : Byte, ReqKind.ofCode c = none →
        exec (.unassignedCode c tag b) s = .next (s.replied c tag .unknownCode []))
      ∧ (∀ k : ReqKind, b.length ≠ k.bodyLength → exec (k.row tag b) s = .next (s.replied k.code tag .badLength []))
      ∧ ∀ k : ReqKind, b.length = k.bodyLength → ¬ ValidBody k b →
        exec (k.row tag b) s = .next (s.replied k.code tag .badValue [])

/-- R187, R184: a refused request changes no block: its reply is sent with an empty body, and the preparation is
cleared. -/
def Obligations.RefusedRequestsChangeNothing : Prop :=
  ∀ (s : State) (i : Instr) (f : Frame) (t : State) (x : Sending), Settled s → PortIdle s → i.frame? = some f →
    exec i s = .next t → t.port.tx = some x → x.reply.status ≠ .ok →
      t = s.replied f.code f.tag x.reply.status []

/-! ## Layouts -/

/-- R194 and R185, with the tables of section 10.8 and the codes of section 10.3: multi-byte fields are little-endian and
signed ones two's complement; the code of every listed value; the flag at each number of a flag set. The statements above
lay out their bodies in these words. -/
def Obligations.FieldsCodesAndFlagNumbers : Prop :=
  (∀ n v : Nat, (le n v).length = n ∧ ∀ k, k < n → (le n v).getD k 0#8 = BitVec.ofNat 8 (v / 256 ^ k))
    ∧ (∀ (n : Nat) (v : Int), -(256 : Int) ^ n ≤ 2 * v → 2 * v < (256 : Int) ^ n →
        leInt n v = le n (if 0 ≤ v then v.natAbs else 256 ^ n - v.natAbs))
    ∧ (∀ n : Nat, zeros n = List.replicate n 0#8)
    ∧ flagByte true = 1#8 ∧ flagByte false = 0#8
    ∧ (∀ (bs : List Bool) (k : Nat), (bitsToNat bs).testBit k = bs.getD k false)
    ∧ [GroupState.undefined, .free, .engaging, .locked, .slipping, .held, .tripped].map groupStateCode
        = [0, 1, 2, 3, 4, 5, 6]
    ∧ [LinkState.off, .quiet, .offer, .acknowledge, .confirm, .up, .lost, .noMatch].map linkStateCode
        = [0, 1, 2, 3, 4, 5, 6, 7]
    ∧ [LinkClass.p250, .p500, .p1000, .p2000].map LinkClass.bit = [0, 1, 2, 3]
    ∧ [ScheduleState.idle, .active, .dry].map scheduleStateCode = [0, 1, 2]
    ∧ [FilterState.clear, .pending, .latched].map filterStateCode = [0, 1, 2]
    ∧ [FilterKind.overspeed, .encoder, .link, .mismatch, .sync, .tripIn].map FilterKind.number = [0, 1, 2, 3, 4, 5]
    ∧ [WindowState.closed, .openValid, .openInvalid].map windowStateCode = [0, 1, 2]
    ∧ [ExcKind.slip, .engageTimeout, .trip].map excKindCode = [0, 1, 2]
    ∧ [ExcOutcome.recovered, .tripped, .held, .released, .timeout].map excOutcomeCode = [0, 1, 2, 3, 4]
    ∧ (∀ k, calKindCode (.write k) = 1) ∧ calKindCode .lock = 2
    ∧ [Status.ok, .busy, .state, .full, .locked, .tripped, .noLink, .mismatch, .notArmed, .badValue, .badLength,
        .unknownCode].map Status.code
        = [0x00#8, 0x01#8, 0x02#8, 0x03#8, 0x04#8, 0x05#8, 0x06#8, 0x07#8, 0x08#8, 0x09#8, 0x0A#8, 0x0B#8]
    ∧ (∀ n : Fin 4, flagNumber (.overspeed n) = n.val ∧ flagNumber (.encoder n) = 4 + n.val
        ∧ flagNumber (.link n) = 8 + n.val ∧ flagNumber (.mismatch n) = 12 + n.val ∧ flagNumber (.sync n) = 16 + n.val)
    ∧ flagNumber .tripIn = 20 ∧ filteredIds.map flagNumber = List.range 21
    ∧
  ∀ m : Monitor,
    let flag (k : Nat) : Bool := m.flagList.getD k false
    m.flagList.length = 34
      ∧ (∀ i, flag (flagNumber i) = m.filteredSet i
          ∧ (m.filteredSet i = true ↔ (m.flags.get i).state = .latched
            ∨ (m.enabled.get i.kind = true ∧ m.times.get i.kind = 0 ∧ (m.flags.get i).level = true)))
      ∧ flag 21 = m.estop ∧ flag 22 = m.forceTrip ∧ flag 23 = m.alerts.powerOn ∧ flag 24 = m.alerts.restart
      ∧ flag 25 = m.alerts.permitExpired ∧ (∀ g : GroupId, flag (26 + g.val) = m.alerts.scheduleDry.get g)
      ∧ flag 30 = m.alerts.calUnlocked ∧ flag 31 = m.alerts.portCheck ∧ flag 32 = m.forceAlert
      ∧ flag 33 = m.alerts.logLost
      ∧ ∀ k, k < 34 → m.flagWord.getLsbD k = flag k

end
end

