-- ==== Sys2Proof/Laws/Bytes.lean ====
section
/-! SUPPORT. The bodies of section 10.8: each form is read back as what it lays out. -/

namespace Sys2Proof.Machine

theorem byte_toNat (v : Nat) : (BitVec.ofNat 8 v : Byte).toNat = v % 256 := BitVec.toNat_ofNat v 8

theorem fourOf_val (n : Fin 4) : fourOf (n.val % 256) = some n := by
  have h : n.val % 256 = n.val := Nat.mod_eq_of_lt (by omega)
  simp [fourOf, h]

theorem flagByte_toNat (b : Bool) : (flagByte b).toNat = if b then 1 else 0 := by cases b <;> rfl

theorem boolOf_flag (b : Bool) : boolOf (if b then 1 else 0) = some b := by cases b <;> rfl

theorem setOf_toNat (m : BitVec 4) : setOf (m.toNat % 256) = some m := by
  have h : m.toNat < 16 := m.isLt
  have h2 : m.toNat % 256 = m.toNat := Nat.mod_eq_of_lt (by omega)
  simp [setOf, h2, h]

theorem kindOf_number (k : FilterKind) : kindOf (k.number % 256) = some k := by cases k <;> rfl

theorem stationBody_form (n : Station) : stationBody (stationForm n) = some n := by
  simp [stationBody, stationForm, byteAt, fourOf_val]

theorem groupReadBody_form (g : GroupId) : groupReadBody (groupReadForm g) = some g := by
  simp [groupReadBody, groupReadForm, byteAt, fourOf_val]

theorem groupBody_form (g : GroupId) : groupBody (groupForm g) = some g := by
  simp [groupBody, groupForm, byteAt, fourOf_val, check]

theorem linkEnableBody_form (n : Station) (on : Bool) : linkEnableBody (linkEnableForm n on) = some (n, on) := by
  simp [linkEnableBody, linkEnableForm, byteAt, fourOf_val, flagByte_toNat, boolOf_flag]

theorem mod2 (v : Nat) (h : v < 65536) : v % 256 + 256 * (v / 256 % 256) = v := by omega

theorem mod4 (v : Nat) (h : v < 4294967296) :
    v % 256 + 256 * (v / 256 % 256) + 65536 * (v / 256 / 256 % 256 + 256 * (v / 256 / 256 / 256 % 256)) = v := by
  omega

theorem u16At_le (v : Nat) (h : v < 65536) (i : Nat) (b : List Byte) (h0 : b.getD i 0#8 = BitVec.ofNat 8 v)
    (h1 : b.getD (i + 1) 0#8 = BitVec.ofNat 8 (v / 256)) : u16At b i = v := by
  simp only [u16At, byteAt, h0, h1, byte_toNat]
  omega

theorem calWriteBody_form (n : Station) (k : CalConstants) (h : k.InRange) :
    calWriteBody (calWriteForm n k) = some (n, k) := by
  obtain ⟨c, m, l⟩ := k
  obtain ⟨h1, h2, h3, h4, h5, h6⟩ := h
  simp only at h1 h2 h3 h4 h5 h6
  simp [calWriteBody, calWriteForm, le, u32At, u16At, byteAt, fourOf_val, check, within, mod4 c (by omega),
    mod2 m (by omega), mod2 l (by omega), h1, h2, h3, h4, h5, h6]

theorem capabilityBody_form (o l : Nat) (h1 : o ≤ 9) (h2 : 1 ≤ l) (h3 : l ≤ 10) (h4 : o + l ≤ 10) :
    capabilityBody (capabilityForm o l) = some (o, l) := by
  have e1 : o % 256 = o := by omega
  have e2 : l % 256 = l := by omega
  simp [capabilityBody, capabilityForm, le, byteAt, check, within, e1, e2, h1, h2, h3, h4]

theorem stationSetBody_form (n : Station) (t : Settings) (h : t.InRange) :
    stationSetBody (stationSetForm n t) = some (n, fun old => { t with linkEnable := old.linkEnable }) := by
  obtain ⟨d, iv, ci, tol, ov, fl, ml, cl, ar, en⟩ := t
  obtain ⟨h1, h2, h3, h4, h5, h6, h7, h8, h9⟩ := h
  simp only at h1 h2 h3 h4 h5 h6 h7 h8 h9
  have e1 : d % 256 = d := by omega
  have e2 : tol % 256 = tol := by omega
  have e3 : (d = 1 ∨ d = 2) ∨ d = 4 := by omega
  simp [stationSetBody, stationSetForm, le, u32At, u16At, byteAt, fourOf_val, check, within, flagByte_toNat,
    boolOf_flag, setOf_toNat, mod4 ov (by omega), mod2 fl (by omega), mod2 ml (by omega), e1, e2, e3, h2, h3, h4,
    h5, h6, h7, h8, h9]

theorem groupTuneBody_form (g : GroupId) (t : Tuning) (h : t.InRange) :
    groupTuneBody (groupTuneForm g t) = some (g, t) := by
  obtain ⟨kp, kd, cl, lp, ls, tp, ts⟩ := t
  obtain ⟨h1, h2, h3, h4, h5, h6, h7, h8, h9⟩ := h
  simp only at h1 h2 h3 h4 h5 h6 h7 h8 h9
  have e1 : lp ≤ 2000000 := by omega
  have e2 : ls ≤ 20000 := by omega
  have e3 : 1 ≤ tp := by omega
  have e4 : 1 ≤ ts := by omega
  simp [groupTuneBody, groupTuneForm, tuningAt, tuningForm, le, u32At, u16At, byteAt, fourOf_val, check, within,
    Tuning.ok, mod4 lp (by omega), mod4 tp (by omega), mod2 kp (by omega), mod2 kd (by omega), mod2 cl (by omega),
    mod2 ls (by omega), mod2 ts (by omega), h1, h2, h3, h4, h5, h6, h7, h8, h9, e1, e2, e3, e4]

theorem tagBody_form (v : Nat) (h : v < 65536) : tagBody (tagForm v) = some v := by
  simp [tagBody, tagForm, le, zeros, u16At, byteAt, check, mod2 v h, List.replicate]

theorem permitTimeBody_form (v : Nat) (h1 : 100 ≤ v) (h2 : v ≤ 60000) :
    permitTimeBody (permitTimeForm v) = some v := by
  simp [permitTimeBody, permitTimeForm, le, zeros, u16At, byteAt, check, within, mod2 v (by omega), List.replicate,
    h1, h2]

theorem maskBody_form (m : BitVec 4) : maskBody (maskForm m) = some m := by
  simp [maskBody, maskForm, le, zeros, byteAt, check, setOf_toNat, List.replicate]

theorem filterSetBody_form (k : FilterKind) (v : Nat) (h : v ≤ 30000) :
    filterSetBody (filterSetForm k v) = some (k, v) := by
  simp [filterSetBody, filterSetForm, le, zeros, u16At, byteAt, check, within, kindOf_number, mod2 v (by omega),
    List.replicate, h]

theorem sourceEnableBody_form (k : FilterKind) (on : Bool) :
    sourceEnableBody (sourceEnableForm k on) = some (k, on) := by
  simp [sourceEnableBody, sourceEnableForm, le, zeros, u16At, byteAt, check, kindOf_number, flagByte_toNat,
    boolOf_flag, List.replicate]

theorem flagSetBody_form (w : BitVec 34) : flagSetBody (flagSetForm w) = some w := by
  have h : w.toNat < 2 ^ 34 := w.isLt
  have e : u64At (flagSetForm w) 0 = w.toNat := by
    simp [flagSetForm, le, u64At, u32At, u16At, byteAt]
    omega
  simp [flagSetBody, e, check]
  omega

theorem forceSetBody_form (x y : Bool) : forceSetBody (forceSetForm x y) = some (x, y) := by
  simp [forceSetBody, forceSetForm, zeros, u16At, byteAt, check, flagByte_toNat, boolOf_flag, List.replicate]

theorem fetchBody_form (v : Nat) (h : v ≤ 8) : fetchBody (fetchForm v) = some v := by
  have e : v % 256 = v := by omega
  simp [fetchBody, fetchForm, le, zeros, byteAt, check, within, List.replicate, e, h]

theorem windowOpenBody_form (g : GroupId) (v : Nat) (h : v ≤ 10000) :
    windowOpenBody (windowOpenForm g v) = some (g, v) := by
  simp [windowOpenBody, windowOpenForm, le, u16At, byteAt, check, within, fourOf_val, mod2 v (by omega), h]

theorem ringReadBody_form (g : GroupId) (start length : Nat) (wrap : Bool) (page : Nat)
    (h : RingRange start length page) :
    ringReadBody (ringReadForm g start length wrap page)
      = some { group := g, start := start, length := length, wrap := wrap, page := page } := by
  obtain ⟨h1, h2, h3⟩ := h
  have e1 : start % 256 = start := by omega
  have e2 : length % 256 = length := by omega
  have e3 : page % 256 = page := by omega
  have e4 : (length = 8 ∨ length = 16) ∨ length = 32 := by omega
  simp [ringReadBody, ringReadForm, le, zeros, byteAt, check, within, fourOf_val, flagByte_toNat, boolOf_flag,
    List.replicate, e1, e2, e3, e4, h1, h3]

set_option maxHeartbeats 1000000 in
theorem groupDefineBody_form (g : GroupId) (d : GroupDef) (h : d.InRange) :
    groupDefineBody (groupDefineForm g d) = some (g, d) := by
  obtain ⟨k, ms, p, ⟨kp, kd, cl, lp, ls, tp, ts⟩, ramp, et⟩ := d
  obtain ⟨hl1, hl2, hn, hs, hp, ⟨h1, h2, h3, h4, h5, h6, h7, h8, h9⟩, h10, h11, h12⟩ := h
  simp only at hl1 hl2 hn hs hp h1 h2 h3 h4 h5 h6 h7 h8 h9 h10 h11 h12
  have e1 : lp ≤ 2000000 := by omega
  have e2 : ls ≤ 20000 := by omega
  have e3 : 1 ≤ tp := by omega
  have e4 : 1 ≤ ts := by omega
  have e5 : ((p = 250 ∨ p = 500) ∨ p = 1000) ∨ p = 2000 := by omega
  have q1 := mod4 lp (by omega)
  have q2 := mod4 tp (by omega)
  have q3 := mod2 kp (by omega)
  have q4 := mod2 kd (by omega)
  have q5 := mod2 cl (by omega)
  have q6 := mod2 ls (by omega)
  have q7 := mod2 ts (by omega)
  have q8 := mod2 p (by omega)
  have q9 := mod2 ramp (by omega)
  have q10 := mod2 et (by omega)
  match ms, hl1, hl2, hn, hs with
  | [⟨a, x⟩, ⟨b, y⟩], _, _, hn, hs =>
    simp at hn hs
    have i1 : x ≤ 1000 := by omega
    have i2 : y ≤ 1000 := by omega
    have r1 := mod2 x (by omega)
    have r2 := mod2 y (by omega)
    cases k <;>
    simp [groupDefineBody, groupDefineForm, fourFields, tuningAt, tuningForm, le, u32At, u16At, byteAt, fourOf_val,
      check, within, Tuning.ok, groupKindOf, memberEntries, distinct, restZero, List.range, List.range.loop,
      q1, q2, q3, q4, q5, q6, q7, q8, q9, q10, e1, e2, e3, e4, e5, h1, h2, h3, h4, h5, h6, h7, h8, h9, h10, h11, h12,
      i1, i2, r1, r2, hs, Ne.symm hn]
  | [⟨a, x⟩, ⟨b, y⟩, ⟨c, z⟩], _, _, hn, hs =>
    simp at hn hs
    have i1 : x ≤ 1000 := by omega
    have i2 : y ≤ 1000 := by omega
    have i3 : z ≤ 1000 := by omega
    have r1 := mod2 x (by omega)
    have r2 := mod2 y (by omega)
    have r3 := mod2 z (by omega)
    cases k <;>
    simp [groupDefineBody, groupDefineForm, fourFields, tuningAt, tuningForm, le, u32At, u16At, byteAt, fourOf_val,
      check, within, Tuning.ok, groupKindOf, memberEntries, distinct, restZero, List.range, List.range.loop,
      q1, q2, q3, q4, q5, q6, q7, q8, q9, q10, e1, e2, e3, e4, e5, h1, h2, h3, h4, h5, h6, h7, h8, h9, h10, h11, h12,
      i1, i2, i3, r1, r2, r3, hs, Ne.symm hn.1.1, Ne.symm hn.1.2, Ne.symm hn.2]
  | [⟨a, x⟩, ⟨b, y⟩, ⟨c, z⟩, ⟨e, w⟩], _, _, hn, hs =>
    simp at hn hs
    have i1 : x ≤ 1000 := by omega
    have i2 : y ≤ 1000 := by omega
    have i3 : z ≤ 1000 := by omega
    have i4 : w ≤ 1000 := by omega
    have r1 := mod2 x (by omega)
    have r2 := mod2 y (by omega)
    have r3 := mod2 z (by omega)
    have r4 := mod2 w (by omega)
    cases k <;>
    simp [groupDefineBody, groupDefineForm, fourFields, tuningAt, tuningForm, le, u32At, u16At, byteAt, fourOf_val,
      check, within, Tuning.ok, groupKindOf, memberEntries, distinct, restZero, List.range, List.range.loop,
      q1, q2, q3, q4, q5, q6, q7, q8, q9, q10, e1, e2, e3, e4, e5, h1, h2, h3, h4, h5, h6, h7, h8, h9, h10, h11, h12,
      i1, i2, i3, i4, r1, r2, r3, r4, hs, Ne.symm hn.1.1, Ne.symm hn.1.2.1, Ne.symm hn.1.2.2, Ne.symm hn.2.1.1,
      Ne.symm hn.2.1.2, Ne.symm hn.2.2]

theorem signed32_emod (v : Int) (h1 : -2147483648 ≤ v) (h2 : v < 2147483648) :
    signed 32 (v % 4294967296).toNat = v := by
  unfold signed
  simp only [show (2 : Nat) ^ (32 - 1) = 2147483648 from rfl, show (2 : Nat) ^ 32 = 4294967296 from rfl]
  split <;> omega

theorem signed16_emod (v : Int) (h1 : -32768 ≤ v) (h2 : v < 32768) : signed 16 (v % 65536).toNat = v := by
  unfold signed
  simp only [show (2 : Nat) ^ (16 - 1) = 32768 from rfl, show (2 : Nat) ^ 16 = 65536 from rfl]
  split <;> omega

theorem leInt4 (v : Int) : leInt 4 v = le 4 (v % 4294967296).toNat := rfl

theorem leInt2 (v : Int) : leInt 2 v = le 2 (v % 65536).toNat := rfl

theorem segmentBody_form (x : Segment) (grade ramp : Bool) (h : x.InRange) (hg : grade = false → x.coeffs.grade = 0)
    (hr : ramp = false → x.ramp = 0) :
    segmentBody (segmentForm x grade ramp) = some { x with arrival := 0 } := by
  obtain ⟨g, ba, st, du, ⟨a, b, c, m, gr⟩, ra, ta, ar⟩ := x
  obtain ⟨h1, h2, h3, h4, h5, h6, h7, h8, h9, h10, h11, h12, h13, h14, h15⟩ := h
  simp only at h1 h2 h3 h4 h5 h6 h7 h8 h9 h10 h11 h12 h13 h14 h15 hg hr
  have hst : st < 2 ^ 48 := by
    cases ba
    · exact h1 rfl
    · have := h2 rfl
      omega
  have q1 : st % 256 + 256 * (st / 256 % 256) + 65536 * (st / 256 / 256 % 256 + 256 * (st / 256 / 256 / 256 % 256))
      + 4294967296 * (st / 256 / 256 / 256 / 256 % 256 + 256 * (st / 256 / 256 / 256 / 256 / 256 % 256)
      + 65536 * (st / 256 / 256 / 256 / 256 / 256 / 256 % 256
        + 256 * (st / 256 / 256 / 256 / 256 / 256 / 256 / 256 % 256))) = st := by omega
  have q2 := mod4 (a % 4294967296).toNat (by omega)
  have q3 := mod4 (b % 4294967296).toNat (by omega)
  have q4 := mod4 (c % 4294967296).toNat (by omega)
  have q5 := mod2 (m % 65536).toNat (by omega)
  have q6 := mod2 (gr % 65536).toNat (by omega)
  have q7 := mod2 ra (by omega)
  have q8 := mod2 ta (by omega)
  have q9 := signed32_emod b (by omega) (by omega)
  have q10 := signed16_emod gr (by omega) (by omega)
  have q11 : (((a % 4294967296).toNat : Nat) : Int) = a := by omega
  have q12 : (((c % 4294967296).toNat : Nat) : Int) = c := by omega
  have q13 : (((m % 65536).toNat : Nat) : Int) = m := by omega
  have q14 : (a % 4294967296).toNat ≤ 100000 := by omega
  have q15 : (c % 4294967296).toNat ≤ 100000 := by omega
  have q16 : 450 ≤ (m % 65536).toNat := by omega
  have q17 : (m % 65536).toNat ≤ 5500 := by omega
  have hd : ∃ p v : Nat, present du = BitVec.ofNat 8 p ∧ p ≤ 1 ∧ du.getD 0 = v ∧ v ≤ 3600000
      ∧ optionalField p v 1 3600000 = some du := by
    cases du with
    | none => exact ⟨0, 0, rfl, by omega, rfl, by omega, rfl⟩
    | some d =>
      have := h3 d (by simp)
      exact ⟨1, d, rfl, by omega, rfl, this.2, by simp [optionalField, boolOf, check, within, this.1, this.2]⟩
  obtain ⟨dp, dv, d1, d2, d3, d4, d5⟩ := hd
  have q18 := mod4 dv (by omega)
  have q19 : dp % 256 = dp := by omega
  have h2' : ba = .mark → st < 4294967296 := h2
  have h1' : ba = .absolute → st < 281474976710656 := h1
  have d6 : optionalField (flagByte ramp).toNat ra 0 5000 = some (if ramp then some ra else none) := by
    cases ramp
    · rw [hr rfl]; rfl
    · simp [optionalField, flagByte, boolOf, check, within, h14]
  have d7 : (if ramp then some ra else none).getD 0 = ra := by
    cases ramp
    · exact (hr rfl).symm
    · rfl
  cases ba <;> cases grade <;> simp only [forall_const, reduceCtorEq, false_implies] at hg h1' h2' <;>
  simp [segmentBody, segmentForm, leInt4, leInt2, le, zeros, u64At, u32At, u16At, i32At, i16At, byteAt, fourOf_val,
    boolOf, check, within, withinInt, List.replicate, show flagByte true = 1#8 from rfl,
    show flagByte false = 0#8 from rfl, show signed 16 0 = 0 from rfl, d1, d3, d5, d6, d7, q1, q2, q3, q4, q5, q6, q7, q8,
    q9, q10, q11, q12, q13, q14, q15, q16, q17, q18, q19, h6, h7, h12, h13, hg, h1', h2']

end Sys2Proof.Machine
end

