-- ==== Sys2Proof/Laws/State.lean ====
section
/-! SUPPORT. One simp lemma per field per update of the state, and the same for a table of four: no later proof unfolds a record update. -/

namespace Sys2Proof

/-! ## A table of four -/

@[simp] theorem Quad.get_set_self {α : Type} (q : Quad α) (i : Fin 4) (a : α) : (q.set i a).get i = a := by
  match i with
  | 0 => rfl
  | 1 => rfl
  | 2 => rfl
  | 3 => rfl

theorem Quad.get_set_ne {α : Type} (q : Quad α) (i j : Fin 4) (a : α) (h : j ≠ i) :
    (q.set i a).get j = q.get j := by
  match i, j with
  | 0, 0 => exact absurd rfl h
  | 0, 1 => rfl
  | 0, 2 => rfl
  | 0, 3 => rfl
  | 1, 0 => rfl
  | 1, 1 => exact absurd rfl h
  | 1, 2 => rfl
  | 1, 3 => rfl
  | 2, 0 => rfl
  | 2, 1 => rfl
  | 2, 2 => exact absurd rfl h
  | 2, 3 => rfl
  | 3, 0 => rfl
  | 3, 1 => rfl
  | 3, 2 => rfl
  | 3, 3 => exact absurd rfl h

/-- Reading any entry after a replacement. -/
theorem Quad.get_set {α : Type} (q : Quad α) (i j : Fin 4) (a : α) :
    (q.set i a).get j = if j = i then a else q.get j := by
  by_cases h : j = i
  · subst h
    rw [if_pos rfl, Quad.get_set_self]
  · rw [if_neg h, Quad.get_set_ne q i j a h]

@[simp] theorem Quad.get_ofFn {α : Type} (f : Fin 4 → α) (i : Fin 4) : (Quad.ofFn f).get i = f i := by
  match i with
  | 0 => rfl
  | 1 => rfl
  | 2 => rfl
  | 3 => rfl

@[simp] theorem Quad.get_fill {α : Type} (a : α) (i : Fin 4) : (Quad.fill a).get i = a := by
  match i with
  | 0 => rfl
  | 1 => rfl
  | 2 => rfl
  | 3 => rfl

@[simp] theorem Quad.set_get {α : Type} (q : Quad α) (i : Fin 4) : q.set i (q.get i) = q := by
  match i with
  | 0 => rfl
  | 1 => rfl
  | 2 => rfl
  | 3 => rfl

@[simp] theorem Quad.set_set {α : Type} (q : Quad α) (i : Fin 4) (a b : α) : (q.set i a).set i b = q.set i b := by
  match i with
  | 0 => rfl
  | 1 => rfl
  | 2 => rfl
  | 3 => rfl

/-- Two tables with the same entries are equal. -/
theorem Quad.ext_get {α : Type} (p q : Quad α) (h : ∀ i, p.get i = q.get i) : p = q := by
  have h0 := h 0
  have h1 := h 1
  have h2 := h 2
  have h3 := h 3
  cases p
  cases q
  simp only [Quad.get] at h0 h1 h2 h3
  subst h0 h1 h2 h3
  rfl

theorem mem_allFour (i : Fin 4) : i ∈ allFour := by
  match i with
  | 0 => decide
  | 1 => decide
  | 2 => decide
  | 3 => decide

end Sys2Proof

namespace Sys2Proof.Machine

/-! ## withClock -/

@[simp] theorem State.withClock_clock (s : State) (x : CellTime) : (s.withClock x).clock = x := rfl
@[simp] theorem State.withClock_mark (s : State) (x : CellTime) : (s.withClock x).mark = s.mark := rfl
@[simp] theorem State.withClock_units (s : State) (x : CellTime) : (s.withClock x).units = s.units := rfl
@[simp] theorem State.withClock_links (s : State) (x : CellTime) : (s.withClock x).links = s.links := rfl
@[simp] theorem State.withClock_cal (s : State) (x : CellTime) : (s.withClock x).cal = s.cal := rfl
@[simp] theorem State.withClock_settings (s : State) (x : CellTime) : (s.withClock x).settings = s.settings := rfl
@[simp] theorem State.withClock_groups (s : State) (x : CellTime) : (s.withClock x).groups = s.groups := rfl
@[simp] theorem State.withClock_posted (s : State) (x : CellTime) : (s.withClock x).posted = s.posted := rfl
@[simp] theorem State.withClock_road (s : State) (x : CellTime) : (s.withClock x).road = s.road := rfl
@[simp] theorem State.withClock_scheds (s : State) (x : CellTime) : (s.withClock x).scheds = s.scheds := rfl
@[simp] theorem State.withClock_permit (s : State) (x : CellTime) : (s.withClock x).permit = s.permit := rfl
@[simp] theorem State.withClock_mon (s : State) (x : CellTime) : (s.withClock x).mon = s.mon := rfl
@[simp] theorem State.withClock_exc (s : State) (x : CellTime) : (s.withClock x).exc = s.exc := rfl
@[simp] theorem State.withClock_windows (s : State) (x : CellTime) : (s.withClock x).windows = s.windows := rfl
@[simp] theorem State.withClock_rings (s : State) (x : CellTime) : (s.withClock x).rings = s.rings := rfl
@[simp] theorem State.withClock_port (s : State) (x : CellTime) : (s.withClock x).port = s.port := rfl
@[simp] theorem State.withClock_pending (s : State) (x : CellTime) : (s.withClock x).pending = s.pending := rfl
@[simp] theorem State.withClock_freeCount (s : State) (x : CellTime) : (s.withClock x).freeCount = s.freeCount := rfl

/-! ## withMark -/

@[simp] theorem State.withMark_clock (s : State) (x : MarkCapture) : (s.withMark x).clock = s.clock := rfl
@[simp] theorem State.withMark_mark (s : State) (x : MarkCapture) : (s.withMark x).mark = x := rfl
@[simp] theorem State.withMark_units (s : State) (x : MarkCapture) : (s.withMark x).units = s.units := rfl
@[simp] theorem State.withMark_links (s : State) (x : MarkCapture) : (s.withMark x).links = s.links := rfl
@[simp] theorem State.withMark_cal (s : State) (x : MarkCapture) : (s.withMark x).cal = s.cal := rfl
@[simp] theorem State.withMark_settings (s : State) (x : MarkCapture) : (s.withMark x).settings = s.settings := rfl
@[simp] theorem State.withMark_groups (s : State) (x : MarkCapture) : (s.withMark x).groups = s.groups := rfl
@[simp] theorem State.withMark_posted (s : State) (x : MarkCapture) : (s.withMark x).posted = s.posted := rfl
@[simp] theorem State.withMark_road (s : State) (x : MarkCapture) : (s.withMark x).road = s.road := rfl
@[simp] theorem State.withMark_scheds (s : State) (x : MarkCapture) : (s.withMark x).scheds = s.scheds := rfl
@[simp] theorem State.withMark_permit (s : State) (x : MarkCapture) : (s.withMark x).permit = s.permit := rfl
@[simp] theorem State.withMark_mon (s : State) (x : MarkCapture) : (s.withMark x).mon = s.mon := rfl
@[simp] theorem State.withMark_exc (s : State) (x : MarkCapture) : (s.withMark x).exc = s.exc := rfl
@[simp] theorem State.withMark_windows (s : State) (x : MarkCapture) : (s.withMark x).windows = s.windows := rfl
@[simp] theorem State.withMark_rings (s : State) (x : MarkCapture) : (s.withMark x).rings = s.rings := rfl
@[simp] theorem State.withMark_port (s : State) (x : MarkCapture) : (s.withMark x).port = s.port := rfl
@[simp] theorem State.withMark_pending (s : State) (x : MarkCapture) : (s.withMark x).pending = s.pending := rfl
@[simp] theorem State.withMark_freeCount (s : State) (x : MarkCapture) : (s.withMark x).freeCount = s.freeCount := rfl

/-! ## withUnit -/

@[simp] theorem State.withUnit_clock (s : State) (n : Station) (x : EncoderUnit) : (s.withUnit n x).clock = s.clock := rfl
@[simp] theorem State.withUnit_mark (s : State) (n : Station) (x : EncoderUnit) : (s.withUnit n x).mark = s.mark := rfl
@[simp] theorem State.withUnit_units (s : State) (n : Station) (x : EncoderUnit) : (s.withUnit n x).units = s.units.set n x := rfl
@[simp] theorem State.withUnit_links (s : State) (n : Station) (x : EncoderUnit) : (s.withUnit n x).links = s.links := rfl
@[simp] theorem State.withUnit_cal (s : State) (n : Station) (x : EncoderUnit) : (s.withUnit n x).cal = s.cal := rfl
@[simp] theorem State.withUnit_settings (s : State) (n : Station) (x : EncoderUnit) : (s.withUnit n x).settings = s.settings := rfl
@[simp] theorem State.withUnit_groups (s : State) (n : Station) (x : EncoderUnit) : (s.withUnit n x).groups = s.groups := rfl
@[simp] theorem State.withUnit_posted (s : State) (n : Station) (x : EncoderUnit) : (s.withUnit n x).posted = s.posted := rfl
@[simp] theorem State.withUnit_road (s : State) (n : Station) (x : EncoderUnit) : (s.withUnit n x).road = s.road := rfl
@[simp] theorem State.withUnit_scheds (s : State) (n : Station) (x : EncoderUnit) : (s.withUnit n x).scheds = s.scheds := rfl
@[simp] theorem State.withUnit_permit (s : State) (n : Station) (x : EncoderUnit) : (s.withUnit n x).permit = s.permit := rfl
@[simp] theorem State.withUnit_mon (s : State) (n : Station) (x : EncoderUnit) : (s.withUnit n x).mon = s.mon := rfl
@[simp] theorem State.withUnit_exc (s : State) (n : Station) (x : EncoderUnit) : (s.withUnit n x).exc = s.exc := rfl
@[simp] theorem State.withUnit_windows (s : State) (n : Station) (x : EncoderUnit) : (s.withUnit n x).windows = s.windows := rfl
@[simp] theorem State.withUnit_rings (s : State) (n : Station) (x : EncoderUnit) : (s.withUnit n x).rings = s.rings := rfl
@[simp] theorem State.withUnit_port (s : State) (n : Station) (x : EncoderUnit) : (s.withUnit n x).port = s.port := rfl
@[simp] theorem State.withUnit_pending (s : State) (n : Station) (x : EncoderUnit) : (s.withUnit n x).pending = s.pending := rfl
@[simp] theorem State.withUnit_freeCount (s : State) (n : Station) (x : EncoderUnit) : (s.withUnit n x).freeCount = s.freeCount := rfl

/-! ## withLink -/

@[simp] theorem State.withLink_clock (s : State) (n : Station) (x : Link) : (s.withLink n x).clock = s.clock := rfl
@[simp] theorem State.withLink_mark (s : State) (n : Station) (x : Link) : (s.withLink n x).mark = s.mark := rfl
@[simp] theorem State.withLink_units (s : State) (n : Station) (x : Link) : (s.withLink n x).units = s.units := rfl
@[simp] theorem State.withLink_links (s : State) (n : Station) (x : Link) : (s.withLink n x).links = s.links.set n x := rfl
@[simp] theorem State.withLink_cal (s : State) (n : Station) (x : Link) : (s.withLink n x).cal = s.cal := rfl
@[simp] theorem State.withLink_settings (s : State) (n : Station) (x : Link) : (s.withLink n x).settings = s.settings := rfl
@[simp] theorem State.withLink_groups (s : State) (n : Station) (x : Link) : (s.withLink n x).groups = s.groups := rfl
@[simp] theorem State.withLink_posted (s : State) (n : Station) (x : Link) : (s.withLink n x).posted = s.posted := rfl
@[simp] theorem State.withLink_road (s : State) (n : Station) (x : Link) : (s.withLink n x).road = s.road := rfl
@[simp] theorem State.withLink_scheds (s : State) (n : Station) (x : Link) : (s.withLink n x).scheds = s.scheds := rfl
@[simp] theorem State.withLink_permit (s : State) (n : Station) (x : Link) : (s.withLink n x).permit = s.permit := rfl
@[simp] theorem State.withLink_mon (s : State) (n : Station) (x : Link) : (s.withLink n x).mon = s.mon := rfl
@[simp] theorem State.withLink_exc (s : State) (n : Station) (x : Link) : (s.withLink n x).exc = s.exc := rfl
@[simp] theorem State.withLink_windows (s : State) (n : Station) (x : Link) : (s.withLink n x).windows = s.windows := rfl
@[simp] theorem State.withLink_rings (s : State) (n : Station) (x : Link) : (s.withLink n x).rings = s.rings := rfl
@[simp] theorem State.withLink_port (s : State) (n : Station) (x : Link) : (s.withLink n x).port = s.port := rfl
@[simp] theorem State.withLink_pending (s : State) (n : Station) (x : Link) : (s.withLink n x).pending = s.pending := rfl
@[simp] theorem State.withLink_freeCount (s : State) (n : Station) (x : Link) : (s.withLink n x).freeCount = s.freeCount := rfl

/-! ## withCal -/

@[simp] theorem State.withCal_clock (s : State) (x : CalStore) : (s.withCal x).clock = s.clock := rfl
@[simp] theorem State.withCal_mark (s : State) (x : CalStore) : (s.withCal x).mark = s.mark := rfl
@[simp] theorem State.withCal_units (s : State) (x : CalStore) : (s.withCal x).units = s.units := rfl
@[simp] theorem State.withCal_links (s : State) (x : CalStore) : (s.withCal x).links = s.links := rfl
@[simp] theorem State.withCal_cal (s : State) (x : CalStore) : (s.withCal x).cal = x := rfl
@[simp] theorem State.withCal_settings (s : State) (x : CalStore) : (s.withCal x).settings = s.settings := rfl
@[simp] theorem State.withCal_groups (s : State) (x : CalStore) : (s.withCal x).groups = s.groups := rfl
@[simp] theorem State.withCal_posted (s : State) (x : CalStore) : (s.withCal x).posted = s.posted := rfl
@[simp] theorem State.withCal_road (s : State) (x : CalStore) : (s.withCal x).road = s.road := rfl
@[simp] theorem State.withCal_scheds (s : State) (x : CalStore) : (s.withCal x).scheds = s.scheds := rfl
@[simp] theorem State.withCal_permit (s : State) (x : CalStore) : (s.withCal x).permit = s.permit := rfl
@[simp] theorem State.withCal_mon (s : State) (x : CalStore) : (s.withCal x).mon = s.mon := rfl
@[simp] theorem State.withCal_exc (s : State) (x : CalStore) : (s.withCal x).exc = s.exc := rfl
@[simp] theorem State.withCal_windows (s : State) (x : CalStore) : (s.withCal x).windows = s.windows := rfl
@[simp] theorem State.withCal_rings (s : State) (x : CalStore) : (s.withCal x).rings = s.rings := rfl
@[simp] theorem State.withCal_port (s : State) (x : CalStore) : (s.withCal x).port = s.port := rfl
@[simp] theorem State.withCal_pending (s : State) (x : CalStore) : (s.withCal x).pending = s.pending := rfl
@[simp] theorem State.withCal_freeCount (s : State) (x : CalStore) : (s.withCal x).freeCount = s.freeCount := rfl

/-! ## withSettings -/

@[simp] theorem State.withSettings_clock (s : State) (n : Station) (x : Settings) : (s.withSettings n x).clock = s.clock := rfl
@[simp] theorem State.withSettings_mark (s : State) (n : Station) (x : Settings) : (s.withSettings n x).mark = s.mark := rfl
@[simp] theorem State.withSettings_units (s : State) (n : Station) (x : Settings) : (s.withSettings n x).units = s.units := rfl
@[simp] theorem State.withSettings_links (s : State) (n : Station) (x : Settings) : (s.withSettings n x).links = s.links := rfl
@[simp] theorem State.withSettings_cal (s : State) (n : Station) (x : Settings) : (s.withSettings n x).cal = s.cal := rfl
@[simp] theorem State.withSettings_settings (s : State) (n : Station) (x : Settings) : (s.withSettings n x).settings = s.settings.set n x := rfl
@[simp] theorem State.withSettings_groups (s : State) (n : Station) (x : Settings) : (s.withSettings n x).groups = s.groups := rfl
@[simp] theorem State.withSettings_posted (s : State) (n : Station) (x : Settings) : (s.withSettings n x).posted = s.posted := rfl
@[simp] theorem State.withSettings_road (s : State) (n : Station) (x : Settings) : (s.withSettings n x).road = s.road := rfl
@[simp] theorem State.withSettings_scheds (s : State) (n : Station) (x : Settings) : (s.withSettings n x).scheds = s.scheds := rfl
@[simp] theorem State.withSettings_permit (s : State) (n : Station) (x : Settings) : (s.withSettings n x).permit = s.permit := rfl
@[simp] theorem State.withSettings_mon (s : State) (n : Station) (x : Settings) : (s.withSettings n x).mon = s.mon := rfl
@[simp] theorem State.withSettings_exc (s : State) (n : Station) (x : Settings) : (s.withSettings n x).exc = s.exc := rfl
@[simp] theorem State.withSettings_windows (s : State) (n : Station) (x : Settings) : (s.withSettings n x).windows = s.windows := rfl
@[simp] theorem State.withSettings_rings (s : State) (n : Station) (x : Settings) : (s.withSettings n x).rings = s.rings := rfl
@[simp] theorem State.withSettings_port (s : State) (n : Station) (x : Settings) : (s.withSettings n x).port = s.port := rfl
@[simp] theorem State.withSettings_pending (s : State) (n : Station) (x : Settings) : (s.withSettings n x).pending = s.pending := rfl
@[simp] theorem State.withSettings_freeCount (s : State) (n : Station) (x : Settings) : (s.withSettings n x).freeCount = s.freeCount := rfl

/-! ## withGroup -/

@[simp] theorem State.withGroup_clock (s : State) (n : GroupId) (x : Group) : (s.withGroup n x).clock = s.clock := rfl
@[simp] theorem State.withGroup_mark (s : State) (n : GroupId) (x : Group) : (s.withGroup n x).mark = s.mark := rfl
@[simp] theorem State.withGroup_units (s : State) (n : GroupId) (x : Group) : (s.withGroup n x).units = s.units := rfl
@[simp] theorem State.withGroup_links (s : State) (n : GroupId) (x : Group) : (s.withGroup n x).links = s.links := rfl
@[simp] theorem State.withGroup_cal (s : State) (n : GroupId) (x : Group) : (s.withGroup n x).cal = s.cal := rfl
@[simp] theorem State.withGroup_settings (s : State) (n : GroupId) (x : Group) : (s.withGroup n x).settings = s.settings := rfl
@[simp] theorem State.withGroup_groups (s : State) (n : GroupId) (x : Group) : (s.withGroup n x).groups = s.groups.set n x := rfl
@[simp] theorem State.withGroup_posted (s : State) (n : GroupId) (x : Group) : (s.withGroup n x).posted = s.posted := rfl
@[simp] theorem State.withGroup_road (s : State) (n : GroupId) (x : Group) : (s.withGroup n x).road = s.road := rfl
@[simp] theorem State.withGroup_scheds (s : State) (n : GroupId) (x : Group) : (s.withGroup n x).scheds = s.scheds := rfl
@[simp] theorem State.withGroup_permit (s : State) (n : GroupId) (x : Group) : (s.withGroup n x).permit = s.permit := rfl
@[simp] theorem State.withGroup_mon (s : State) (n : GroupId) (x : Group) : (s.withGroup n x).mon = s.mon := rfl
@[simp] theorem State.withGroup_exc (s : State) (n : GroupId) (x : Group) : (s.withGroup n x).exc = s.exc := rfl
@[simp] theorem State.withGroup_windows (s : State) (n : GroupId) (x : Group) : (s.withGroup n x).windows = s.windows := rfl
@[simp] theorem State.withGroup_rings (s : State) (n : GroupId) (x : Group) : (s.withGroup n x).rings = s.rings := rfl
@[simp] theorem State.withGroup_port (s : State) (n : GroupId) (x : Group) : (s.withGroup n x).port = s.port := rfl
@[simp] theorem State.withGroup_pending (s : State) (n : GroupId) (x : Group) : (s.withGroup n x).pending = s.pending := rfl
@[simp] theorem State.withGroup_freeCount (s : State) (n : GroupId) (x : Group) : (s.withGroup n x).freeCount = s.freeCount := rfl

/-! ## withPosted -/

@[simp] theorem State.withPosted_clock (s : State) (x : Quad Int) : (s.withPosted x).clock = s.clock := rfl
@[simp] theorem State.withPosted_mark (s : State) (x : Quad Int) : (s.withPosted x).mark = s.mark := rfl
@[simp] theorem State.withPosted_units (s : State) (x : Quad Int) : (s.withPosted x).units = s.units := rfl
@[simp] theorem State.withPosted_links (s : State) (x : Quad Int) : (s.withPosted x).links = s.links := rfl
@[simp] theorem State.withPosted_cal (s : State) (x : Quad Int) : (s.withPosted x).cal = s.cal := rfl
@[simp] theorem State.withPosted_settings (s : State) (x : Quad Int) : (s.withPosted x).settings = s.settings := rfl
@[simp] theorem State.withPosted_groups (s : State) (x : Quad Int) : (s.withPosted x).groups = s.groups := rfl
@[simp] theorem State.withPosted_posted (s : State) (x : Quad Int) : (s.withPosted x).posted = x := rfl
@[simp] theorem State.withPosted_road (s : State) (x : Quad Int) : (s.withPosted x).road = s.road := rfl
@[simp] theorem State.withPosted_scheds (s : State) (x : Quad Int) : (s.withPosted x).scheds = s.scheds := rfl
@[simp] theorem State.withPosted_permit (s : State) (x : Quad Int) : (s.withPosted x).permit = s.permit := rfl
@[simp] theorem State.withPosted_mon (s : State) (x : Quad Int) : (s.withPosted x).mon = s.mon := rfl
@[simp] theorem State.withPosted_exc (s : State) (x : Quad Int) : (s.withPosted x).exc = s.exc := rfl
@[simp] theorem State.withPosted_windows (s : State) (x : Quad Int) : (s.withPosted x).windows = s.windows := rfl
@[simp] theorem State.withPosted_rings (s : State) (x : Quad Int) : (s.withPosted x).rings = s.rings := rfl
@[simp] theorem State.withPosted_port (s : State) (x : Quad Int) : (s.withPosted x).port = s.port := rfl
@[simp] theorem State.withPosted_pending (s : State) (x : Quad Int) : (s.withPosted x).pending = s.pending := rfl
@[simp] theorem State.withPosted_freeCount (s : State) (x : Quad Int) : (s.withPosted x).freeCount = s.freeCount := rfl

/-! ## withRoad -/

@[simp] theorem State.withRoad_clock (s : State) (x : RoadQueue) : (s.withRoad x).clock = s.clock := rfl
@[simp] theorem State.withRoad_mark (s : State) (x : RoadQueue) : (s.withRoad x).mark = s.mark := rfl
@[simp] theorem State.withRoad_units (s : State) (x : RoadQueue) : (s.withRoad x).units = s.units := rfl
@[simp] theorem State.withRoad_links (s : State) (x : RoadQueue) : (s.withRoad x).links = s.links := rfl
@[simp] theorem State.withRoad_cal (s : State) (x : RoadQueue) : (s.withRoad x).cal = s.cal := rfl
@[simp] theorem State.withRoad_settings (s : State) (x : RoadQueue) : (s.withRoad x).settings = s.settings := rfl
@[simp] theorem State.withRoad_groups (s : State) (x : RoadQueue) : (s.withRoad x).groups = s.groups := rfl
@[simp] theorem State.withRoad_posted (s : State) (x : RoadQueue) : (s.withRoad x).posted = s.posted := rfl
@[simp] theorem State.withRoad_road (s : State) (x : RoadQueue) : (s.withRoad x).road = x := rfl
@[simp] theorem State.withRoad_scheds (s : State) (x : RoadQueue) : (s.withRoad x).scheds = s.scheds := rfl
@[simp] theorem State.withRoad_permit (s : State) (x : RoadQueue) : (s.withRoad x).permit = s.permit := rfl
@[simp] theorem State.withRoad_mon (s : State) (x : RoadQueue) : (s.withRoad x).mon = s.mon := rfl
@[simp] theorem State.withRoad_exc (s : State) (x : RoadQueue) : (s.withRoad x).exc = s.exc := rfl
@[simp] theorem State.withRoad_windows (s : State) (x : RoadQueue) : (s.withRoad x).windows = s.windows := rfl
@[simp] theorem State.withRoad_rings (s : State) (x : RoadQueue) : (s.withRoad x).rings = s.rings := rfl
@[simp] theorem State.withRoad_port (s : State) (x : RoadQueue) : (s.withRoad x).port = s.port := rfl
@[simp] theorem State.withRoad_pending (s : State) (x : RoadQueue) : (s.withRoad x).pending = s.pending := rfl
@[simp] theorem State.withRoad_freeCount (s : State) (x : RoadQueue) : (s.withRoad x).freeCount = s.freeCount := rfl

/-! ## withSched -/

@[simp] theorem State.withSched_clock (s : State) (n : GroupId) (x : Schedule) : (s.withSched n x).clock = s.clock := rfl
@[simp] theorem State.withSched_mark (s : State) (n : GroupId) (x : Schedule) : (s.withSched n x).mark = s.mark := rfl
@[simp] theorem State.withSched_units (s : State) (n : GroupId) (x : Schedule) : (s.withSched n x).units = s.units := rfl
@[simp] theorem State.withSched_links (s : State) (n : GroupId) (x : Schedule) : (s.withSched n x).links = s.links := rfl
@[simp] theorem State.withSched_cal (s : State) (n : GroupId) (x : Schedule) : (s.withSched n x).cal = s.cal := rfl
@[simp] theorem State.withSched_settings (s : State) (n : GroupId) (x : Schedule) : (s.withSched n x).settings = s.settings := rfl
@[simp] theorem State.withSched_groups (s : State) (n : GroupId) (x : Schedule) : (s.withSched n x).groups = s.groups := rfl
@[simp] theorem State.withSched_posted (s : State) (n : GroupId) (x : Schedule) : (s.withSched n x).posted = s.posted := rfl
@[simp] theorem State.withSched_road (s : State) (n : GroupId) (x : Schedule) : (s.withSched n x).road = s.road := rfl
@[simp] theorem State.withSched_scheds (s : State) (n : GroupId) (x : Schedule) : (s.withSched n x).scheds = s.scheds.set n x := rfl
@[simp] theorem State.withSched_permit (s : State) (n : GroupId) (x : Schedule) : (s.withSched n x).permit = s.permit := rfl
@[simp] theorem State.withSched_mon (s : State) (n : GroupId) (x : Schedule) : (s.withSched n x).mon = s.mon := rfl
@[simp] theorem State.withSched_exc (s : State) (n : GroupId) (x : Schedule) : (s.withSched n x).exc = s.exc := rfl
@[simp] theorem State.withSched_windows (s : State) (n : GroupId) (x : Schedule) : (s.withSched n x).windows = s.windows := rfl
@[simp] theorem State.withSched_rings (s : State) (n : GroupId) (x : Schedule) : (s.withSched n x).rings = s.rings := rfl
@[simp] theorem State.withSched_port (s : State) (n : GroupId) (x : Schedule) : (s.withSched n x).port = s.port := rfl
@[simp] theorem State.withSched_pending (s : State) (n : GroupId) (x : Schedule) : (s.withSched n x).pending = s.pending := rfl
@[simp] theorem State.withSched_freeCount (s : State) (n : GroupId) (x : Schedule) : (s.withSched n x).freeCount = s.freeCount := rfl

/-! ## withPermit -/

@[simp] theorem State.withPermit_clock (s : State) (x : Permit) : (s.withPermit x).clock = s.clock := rfl
@[simp] theorem State.withPermit_mark (s : State) (x : Permit) : (s.withPermit x).mark = s.mark := rfl
@[simp] theorem State.withPermit_units (s : State) (x : Permit) : (s.withPermit x).units = s.units := rfl
@[simp] theorem State.withPermit_links (s : State) (x : Permit) : (s.withPermit x).links = s.links := rfl
@[simp] theorem State.withPermit_cal (s : State) (x : Permit) : (s.withPermit x).cal = s.cal := rfl
@[simp] theorem State.withPermit_settings (s : State) (x : Permit) : (s.withPermit x).settings = s.settings := rfl
@[simp] theorem State.withPermit_groups (s : State) (x : Permit) : (s.withPermit x).groups = s.groups := rfl
@[simp] theorem State.withPermit_posted (s : State) (x : Permit) : (s.withPermit x).posted = s.posted := rfl
@[simp] theorem State.withPermit_road (s : State) (x : Permit) : (s.withPermit x).road = s.road := rfl
@[simp] theorem State.withPermit_scheds (s : State) (x : Permit) : (s.withPermit x).scheds = s.scheds := rfl
@[simp] theorem State.withPermit_permit (s : State) (x : Permit) : (s.withPermit x).permit = x := rfl
@[simp] theorem State.withPermit_mon (s : State) (x : Permit) : (s.withPermit x).mon = s.mon := rfl
@[simp] theorem State.withPermit_exc (s : State) (x : Permit) : (s.withPermit x).exc = s.exc := rfl
@[simp] theorem State.withPermit_windows (s : State) (x : Permit) : (s.withPermit x).windows = s.windows := rfl
@[simp] theorem State.withPermit_rings (s : State) (x : Permit) : (s.withPermit x).rings = s.rings := rfl
@[simp] theorem State.withPermit_port (s : State) (x : Permit) : (s.withPermit x).port = s.port := rfl
@[simp] theorem State.withPermit_pending (s : State) (x : Permit) : (s.withPermit x).pending = s.pending := rfl
@[simp] theorem State.withPermit_freeCount (s : State) (x : Permit) : (s.withPermit x).freeCount = s.freeCount := rfl

/-! ## withMon -/

@[simp] theorem State.withMon_clock (s : State) (x : Monitor) : (s.withMon x).clock = s.clock := rfl
@[simp] theorem State.withMon_mark (s : State) (x : Monitor) : (s.withMon x).mark = s.mark := rfl
@[simp] theorem State.withMon_units (s : State) (x : Monitor) : (s.withMon x).units = s.units := rfl
@[simp] theorem State.withMon_links (s : State) (x : Monitor) : (s.withMon x).links = s.links := rfl
@[simp] theorem State.withMon_cal (s : State) (x : Monitor) : (s.withMon x).cal = s.cal := rfl
@[simp] theorem State.withMon_settings (s : State) (x : Monitor) : (s.withMon x).settings = s.settings := rfl
@[simp] theorem State.withMon_groups (s : State) (x : Monitor) : (s.withMon x).groups = s.groups := rfl
@[simp] theorem State.withMon_posted (s : State) (x : Monitor) : (s.withMon x).posted = s.posted := rfl
@[simp] theorem State.withMon_road (s : State) (x : Monitor) : (s.withMon x).road = s.road := rfl
@[simp] theorem State.withMon_scheds (s : State) (x : Monitor) : (s.withMon x).scheds = s.scheds := rfl
@[simp] theorem State.withMon_permit (s : State) (x : Monitor) : (s.withMon x).permit = s.permit := rfl
@[simp] theorem State.withMon_mon (s : State) (x : Monitor) : (s.withMon x).mon = x := rfl
@[simp] theorem State.withMon_exc (s : State) (x : Monitor) : (s.withMon x).exc = s.exc := rfl
@[simp] theorem State.withMon_windows (s : State) (x : Monitor) : (s.withMon x).windows = s.windows := rfl
@[simp] theorem State.withMon_rings (s : State) (x : Monitor) : (s.withMon x).rings = s.rings := rfl
@[simp] theorem State.withMon_port (s : State) (x : Monitor) : (s.withMon x).port = s.port := rfl
@[simp] theorem State.withMon_pending (s : State) (x : Monitor) : (s.withMon x).pending = s.pending := rfl
@[simp] theorem State.withMon_freeCount (s : State) (x : Monitor) : (s.withMon x).freeCount = s.freeCount := rfl

/-! ## withExc -/

@[simp] theorem State.withExc_clock (s : State) (x : ExcursionStore) : (s.withExc x).clock = s.clock := rfl
@[simp] theorem State.withExc_mark (s : State) (x : ExcursionStore) : (s.withExc x).mark = s.mark := rfl
@[simp] theorem State.withExc_units (s : State) (x : ExcursionStore) : (s.withExc x).units = s.units := rfl
@[simp] theorem State.withExc_links (s : State) (x : ExcursionStore) : (s.withExc x).links = s.links := rfl
@[simp] theorem State.withExc_cal (s : State) (x : ExcursionStore) : (s.withExc x).cal = s.cal := rfl
@[simp] theorem State.withExc_settings (s : State) (x : ExcursionStore) : (s.withExc x).settings = s.settings := rfl
@[simp] theorem State.withExc_groups (s : State) (x : ExcursionStore) : (s.withExc x).groups = s.groups := rfl
@[simp] theorem State.withExc_posted (s : State) (x : ExcursionStore) : (s.withExc x).posted = s.posted := rfl
@[simp] theorem State.withExc_road (s : State) (x : ExcursionStore) : (s.withExc x).road = s.road := rfl
@[simp] theorem State.withExc_scheds (s : State) (x : ExcursionStore) : (s.withExc x).scheds = s.scheds := rfl
@[simp] theorem State.withExc_permit (s : State) (x : ExcursionStore) : (s.withExc x).permit = s.permit := rfl
@[simp] theorem State.withExc_mon (s : State) (x : ExcursionStore) : (s.withExc x).mon = s.mon := rfl
@[simp] theorem State.withExc_exc (s : State) (x : ExcursionStore) : (s.withExc x).exc = x := rfl
@[simp] theorem State.withExc_windows (s : State) (x : ExcursionStore) : (s.withExc x).windows = s.windows := rfl
@[simp] theorem State.withExc_rings (s : State) (x : ExcursionStore) : (s.withExc x).rings = s.rings := rfl
@[simp] theorem State.withExc_port (s : State) (x : ExcursionStore) : (s.withExc x).port = s.port := rfl
@[simp] theorem State.withExc_pending (s : State) (x : ExcursionStore) : (s.withExc x).pending = s.pending := rfl
@[simp] theorem State.withExc_freeCount (s : State) (x : ExcursionStore) : (s.withExc x).freeCount = s.freeCount := rfl

/-! ## withWindow -/

@[simp] theorem State.withWindow_clock (s : State) (n : GroupId) (x : Window) : (s.withWindow n x).clock = s.clock := rfl
@[simp] theorem State.withWindow_mark (s : State) (n : GroupId) (x : Window) : (s.withWindow n x).mark = s.mark := rfl
@[simp] theorem State.withWindow_units (s : State) (n : GroupId) (x : Window) : (s.withWindow n x).units = s.units := rfl
@[simp] theorem State.withWindow_links (s : State) (n : GroupId) (x : Window) : (s.withWindow n x).links = s.links := rfl
@[simp] theorem State.withWindow_cal (s : State) (n : GroupId) (x : Window) : (s.withWindow n x).cal = s.cal := rfl
@[simp] theorem State.withWindow_settings (s : State) (n : GroupId) (x : Window) : (s.withWindow n x).settings = s.settings := rfl
@[simp] theorem State.withWindow_groups (s : State) (n : GroupId) (x : Window) : (s.withWindow n x).groups = s.groups := rfl
@[simp] theorem State.withWindow_posted (s : State) (n : GroupId) (x : Window) : (s.withWindow n x).posted = s.posted := rfl
@[simp] theorem State.withWindow_road (s : State) (n : GroupId) (x : Window) : (s.withWindow n x).road = s.road := rfl
@[simp] theorem State.withWindow_scheds (s : State) (n : GroupId) (x : Window) : (s.withWindow n x).scheds = s.scheds := rfl
@[simp] theorem State.withWindow_permit (s : State) (n : GroupId) (x : Window) : (s.withWindow n x).permit = s.permit := rfl
@[simp] theorem State.withWindow_mon (s : State) (n : GroupId) (x : Window) : (s.withWindow n x).mon = s.mon := rfl
@[simp] theorem State.withWindow_exc (s : State) (n : GroupId) (x : Window) : (s.withWindow n x).exc = s.exc := rfl
@[simp] theorem State.withWindow_windows (s : State) (n : GroupId) (x : Window) : (s.withWindow n x).windows = s.windows.set n x := rfl
@[simp] theorem State.withWindow_rings (s : State) (n : GroupId) (x : Window) : (s.withWindow n x).rings = s.rings := rfl
@[simp] theorem State.withWindow_port (s : State) (n : GroupId) (x : Window) : (s.withWindow n x).port = s.port := rfl
@[simp] theorem State.withWindow_pending (s : State) (n : GroupId) (x : Window) : (s.withWindow n x).pending = s.pending := rfl
@[simp] theorem State.withWindow_freeCount (s : State) (n : GroupId) (x : Window) : (s.withWindow n x).freeCount = s.freeCount := rfl

/-! ## withRing -/

@[simp] theorem State.withRing_clock (s : State) (n : GroupId) (x : Ring) : (s.withRing n x).clock = s.clock := rfl
@[simp] theorem State.withRing_mark (s : State) (n : GroupId) (x : Ring) : (s.withRing n x).mark = s.mark := rfl
@[simp] theorem State.withRing_units (s : State) (n : GroupId) (x : Ring) : (s.withRing n x).units = s.units := rfl
@[simp] theorem State.withRing_links (s : State) (n : GroupId) (x : Ring) : (s.withRing n x).links = s.links := rfl
@[simp] theorem State.withRing_cal (s : State) (n : GroupId) (x : Ring) : (s.withRing n x).cal = s.cal := rfl
@[simp] theorem State.withRing_settings (s : State) (n : GroupId) (x : Ring) : (s.withRing n x).settings = s.settings := rfl
@[simp] theorem State.withRing_groups (s : State) (n : GroupId) (x : Ring) : (s.withRing n x).groups = s.groups := rfl
@[simp] theorem State.withRing_posted (s : State) (n : GroupId) (x : Ring) : (s.withRing n x).posted = s.posted := rfl
@[simp] theorem State.withRing_road (s : State) (n : GroupId) (x : Ring) : (s.withRing n x).road = s.road := rfl
@[simp] theorem State.withRing_scheds (s : State) (n : GroupId) (x : Ring) : (s.withRing n x).scheds = s.scheds := rfl
@[simp] theorem State.withRing_permit (s : State) (n : GroupId) (x : Ring) : (s.withRing n x).permit = s.permit := rfl
@[simp] theorem State.withRing_mon (s : State) (n : GroupId) (x : Ring) : (s.withRing n x).mon = s.mon := rfl
@[simp] theorem State.withRing_exc (s : State) (n : GroupId) (x : Ring) : (s.withRing n x).exc = s.exc := rfl
@[simp] theorem State.withRing_windows (s : State) (n : GroupId) (x : Ring) : (s.withRing n x).windows = s.windows := rfl
@[simp] theorem State.withRing_rings (s : State) (n : GroupId) (x : Ring) : (s.withRing n x).rings = s.rings.set n x := rfl
@[simp] theorem State.withRing_port (s : State) (n : GroupId) (x : Ring) : (s.withRing n x).port = s.port := rfl
@[simp] theorem State.withRing_pending (s : State) (n : GroupId) (x : Ring) : (s.withRing n x).pending = s.pending := rfl
@[simp] theorem State.withRing_freeCount (s : State) (n : GroupId) (x : Ring) : (s.withRing n x).freeCount = s.freeCount := rfl

/-! ## withPort -/

@[simp] theorem State.withPort_clock (s : State) (x : Port) : (s.withPort x).clock = s.clock := rfl
@[simp] theorem State.withPort_mark (s : State) (x : Port) : (s.withPort x).mark = s.mark := rfl
@[simp] theorem State.withPort_units (s : State) (x : Port) : (s.withPort x).units = s.units := rfl
@[simp] theorem State.withPort_links (s : State) (x : Port) : (s.withPort x).links = s.links := rfl
@[simp] theorem State.withPort_cal (s : State) (x : Port) : (s.withPort x).cal = s.cal := rfl
@[simp] theorem State.withPort_settings (s : State) (x : Port) : (s.withPort x).settings = s.settings := rfl
@[simp] theorem State.withPort_groups (s : State) (x : Port) : (s.withPort x).groups = s.groups := rfl
@[simp] theorem State.withPort_posted (s : State) (x : Port) : (s.withPort x).posted = s.posted := rfl
@[simp] theorem State.withPort_road (s : State) (x : Port) : (s.withPort x).road = s.road := rfl
@[simp] theorem State.withPort_scheds (s : State) (x : Port) : (s.withPort x).scheds = s.scheds := rfl
@[simp] theorem State.withPort_permit (s : State) (x : Port) : (s.withPort x).permit = s.permit := rfl
@[simp] theorem State.withPort_mon (s : State) (x : Port) : (s.withPort x).mon = s.mon := rfl
@[simp] theorem State.withPort_exc (s : State) (x : Port) : (s.withPort x).exc = s.exc := rfl
@[simp] theorem State.withPort_windows (s : State) (x : Port) : (s.withPort x).windows = s.windows := rfl
@[simp] theorem State.withPort_rings (s : State) (x : Port) : (s.withPort x).rings = s.rings := rfl
@[simp] theorem State.withPort_port (s : State) (x : Port) : (s.withPort x).port = x := rfl
@[simp] theorem State.withPort_pending (s : State) (x : Port) : (s.withPort x).pending = s.pending := rfl
@[simp] theorem State.withPort_freeCount (s : State) (x : Port) : (s.withPort x).freeCount = s.freeCount := rfl

/-! ## withPending -/

@[simp] theorem State.withPending_clock (s : State) (x : List Instr) : (s.withPending x).clock = s.clock := rfl
@[simp] theorem State.withPending_mark (s : State) (x : List Instr) : (s.withPending x).mark = s.mark := rfl
@[simp] theorem State.withPending_units (s : State) (x : List Instr) : (s.withPending x).units = s.units := rfl
@[simp] theorem State.withPending_links (s : State) (x : List Instr) : (s.withPending x).links = s.links := rfl
@[simp] theorem State.withPending_cal (s : State) (x : List Instr) : (s.withPending x).cal = s.cal := rfl
@[simp] theorem State.withPending_settings (s : State) (x : List Instr) : (s.withPending x).settings = s.settings := rfl
@[simp] theorem State.withPending_groups (s : State) (x : List Instr) : (s.withPending x).groups = s.groups := rfl
@[simp] theorem State.withPending_posted (s : State) (x : List Instr) : (s.withPending x).posted = s.posted := rfl
@[simp] theorem State.withPending_road (s : State) (x : List Instr) : (s.withPending x).road = s.road := rfl
@[simp] theorem State.withPending_scheds (s : State) (x : List Instr) : (s.withPending x).scheds = s.scheds := rfl
@[simp] theorem State.withPending_permit (s : State) (x : List Instr) : (s.withPending x).permit = s.permit := rfl
@[simp] theorem State.withPending_mon (s : State) (x : List Instr) : (s.withPending x).mon = s.mon := rfl
@[simp] theorem State.withPending_exc (s : State) (x : List Instr) : (s.withPending x).exc = s.exc := rfl
@[simp] theorem State.withPending_windows (s : State) (x : List Instr) : (s.withPending x).windows = s.windows := rfl
@[simp] theorem State.withPending_rings (s : State) (x : List Instr) : (s.withPending x).rings = s.rings := rfl
@[simp] theorem State.withPending_port (s : State) (x : List Instr) : (s.withPending x).port = s.port := rfl
@[simp] theorem State.withPending_pending (s : State) (x : List Instr) : (s.withPending x).pending = x := rfl
@[simp] theorem State.withPending_freeCount (s : State) (x : List Instr) : (s.withPending x).freeCount = s.freeCount := rfl

/-! ## withFree -/

@[simp] theorem State.withFree_clock (s : State) (x : Nat) : (s.withFree x).clock = s.clock := rfl
@[simp] theorem State.withFree_mark (s : State) (x : Nat) : (s.withFree x).mark = s.mark := rfl
@[simp] theorem State.withFree_units (s : State) (x : Nat) : (s.withFree x).units = s.units := rfl
@[simp] theorem State.withFree_links (s : State) (x : Nat) : (s.withFree x).links = s.links := rfl
@[simp] theorem State.withFree_cal (s : State) (x : Nat) : (s.withFree x).cal = s.cal := rfl
@[simp] theorem State.withFree_settings (s : State) (x : Nat) : (s.withFree x).settings = s.settings := rfl
@[simp] theorem State.withFree_groups (s : State) (x : Nat) : (s.withFree x).groups = s.groups := rfl
@[simp] theorem State.withFree_posted (s : State) (x : Nat) : (s.withFree x).posted = s.posted := rfl
@[simp] theorem State.withFree_road (s : State) (x : Nat) : (s.withFree x).road = s.road := rfl
@[simp] theorem State.withFree_scheds (s : State) (x : Nat) : (s.withFree x).scheds = s.scheds := rfl
@[simp] theorem State.withFree_permit (s : State) (x : Nat) : (s.withFree x).permit = s.permit := rfl
@[simp] theorem State.withFree_mon (s : State) (x : Nat) : (s.withFree x).mon = s.mon := rfl
@[simp] theorem State.withFree_exc (s : State) (x : Nat) : (s.withFree x).exc = s.exc := rfl
@[simp] theorem State.withFree_windows (s : State) (x : Nat) : (s.withFree x).windows = s.windows := rfl
@[simp] theorem State.withFree_rings (s : State) (x : Nat) : (s.withFree x).rings = s.rings := rfl
@[simp] theorem State.withFree_port (s : State) (x : Nat) : (s.withFree x).port = s.port := rfl
@[simp] theorem State.withFree_pending (s : State) (x : Nat) : (s.withFree x).pending = s.pending := rfl
@[simp] theorem State.withFree_freeCount (s : State) (x : Nat) : (s.withFree x).freeCount = x := rfl

end Sys2Proof.Machine
end

