-- ==== Sys2Proof/Laws/Settle.lean ====
section
/-! SUPPORT. What the end of an event can do: the filtered flags as a table, the handing of the conditions, the outputs, the trip event's frame, and `settle`. -/

namespace Sys2Proof.Machine

/-! ## The table of filtered flags -/

@[simp] theorem FilteredFlags.get_mapIds (f : FilteredFlags) (h : FilteredId → Filtered → Filtered) (i : FilteredId) :
    (f.mapIds h).get i = h i (f.get i) := by
  cases i <;> simp [FilteredFlags.mapIds, FilteredFlags.get]

theorem mem_filteredIds (i : FilteredId) : i ∈ filteredIds := by
  cases i <;> simp [filteredIds, mem_allFour]

/-- Two tables with the same flags are equal. -/
theorem FilteredFlags.ext_get (f g : FilteredFlags) (h : ∀ i, f.get i = g.get i) : f = g := by
  have h1 : f.overspeed = g.overspeed := Quad.ext_get _ _ fun n => h (.overspeed n)
  have h2 : f.encoder = g.encoder := Quad.ext_get _ _ fun n => h (.encoder n)
  have h3 : f.link = g.link := Quad.ext_get _ _ fun n => h (.link n)
  have h4 : f.mismatch = g.mismatch := Quad.ext_get _ _ fun n => h (.mismatch n)
  have h5 : f.sync = g.sync := Quad.ext_get _ _ fun n => h (.sync n)
  have h6 : f.tripIn = g.tripIn := h .tripIn
  cases f
  cases g
  simp only at h1 h2 h3 h4 h5 h6
  subst h1 h2 h3 h4 h5 h6
  rfl

/-! ## Handing the conditions -/

/-- A level already held does nothing (R143). -/
theorem Filtered.hand_same (enabled : Bool) (time now : Nat) (f : Filtered) : f.hand enabled time now f.level = f := by
  simp [Filtered.hand]

theorem Filtered.appear_level (now time : Nat) (f : Filtered) : (f.appear now time).level = f.level := by
  unfold Filtered.appear
  split <;> rfl

/-- The flag holds the level handed. -/
theorem Filtered.hand_level (enabled : Bool) (time now : Nat) (level : Bool) (f : Filtered) :
    (f.hand enabled time now level).level = level := by
  unfold Filtered.hand
  split
  · simp_all
  · split
    · rfl
    · split <;> simp [Filtered.appear_level]

/-- Where every flag holds the level of its condition, handing the conditions does nothing (R143). -/
theorem Monitor.handAll_same (now : Nat) (levels : FilteredId → Bool) (m : Monitor)
    (h : ∀ i, (m.flags.get i).level = levels i) : m.handAll now levels = m := by
  have : (m.flags.mapIds fun i f => f.hand (m.enabled.get i.kind) (m.times.get i.kind) now (levels i)) = m.flags := by
    apply FilteredFlags.ext_get
    intro i
    rw [FilteredFlags.get_mapIds, ← h i, Filtered.hand_same]
  unfold Monitor.handAll
  rw [this]

/-- Handing the conditions changes the filtered flags alone. -/
theorem Monitor.handAll_frame (now : Nat) (levels : FilteredId → Bool) (m : Monitor) :
    ∃ f, m.handAll now levels = { m with flags := f } := ⟨_, rfl⟩

theorem handConditions_same (s : State) (h : ∀ i, (s.mon.flags.get i).level = s.condition i) :
    handConditions s = s := by
  unfold handConditions
  rw [Monitor.handAll_same _ _ _ h]
  rfl

/-- The conditions read neither the flags nor the outputs nor the alerts. -/
theorem condition_withMon (s : State) (m : Monitor) (h : m.tripIn = s.mon.tripIn) (i : FilteredId) :
    (s.withMon m).condition i = s.condition i := by
  cases i <;> first | rfl | simpa [State.condition] using h

/-- The conditions read of a unit the overspeed condition and the two bad flags; of a link its state, drive fault and
force mismatch condition; of a group its state, members and SYNC condition; and the level of TRIP_IN. -/
theorem condition_congr (s t : State)
    (hu : ∀ n, (t.units.get n).overspeed = (s.units.get n).overspeed
      ∧ (t.units.get n).encoderCondition = (s.units.get n).encoderCondition)
    (hl : ∀ n, (t.links.get n).state = (s.links.get n).state ∧ (t.links.get n).fault = (s.links.get n).fault
      ∧ (t.links.get n).mismatch = (s.links.get n).mismatch)
    (hg : ∀ g, (t.groups.get g).state = (s.groups.get g).state
      ∧ (∀ n, (t.groups.get g).hasMember n = (s.groups.get g).hasMember n)
      ∧ (t.groups.get g).sync = (s.groups.get g).sync)
    (ht : t.mon.tripIn = s.mon.tripIn) (i : FilteredId) : t.condition i = s.condition i := by
  have hgo : ∀ n, t.groupOf n = s.groupOf n := fun n => by
    unfold State.groupOf
    congr 1
    funext g
    rw [(hg g).1, (hg g).2.1 n]
  have hr : ∀ n, t.inRunningGroup n = s.inRunningGroup n := fun n => by
    unfold State.inRunningGroup
    rw [hgo n]
    cases s.groupOf n with
    | none => rfl
    | some g => simp only [(hg g).1]
  cases i with
  | overspeed n => exact (hu n).1
  | encoder n => exact (hu n).2
  | link n =>
    show t.linkCondition n = s.linkCondition n
    simp only [State.linkCondition, (hl n).1, (hl n).2.1, hr n]
  | mismatch n => exact (hl n).2.2
  | sync g => exact (hg g).2.2
  | tripIn => exact ht

/-- The conditions that an update of the monitor's flags leaves are those before it. -/
theorem condition_handConditions (s : State) (i : FilteredId) : (handConditions s).condition i = s.condition i :=
  condition_withMon _ _ rfl i

theorem handConditions_level (s : State) (i : FilteredId) :
    ((handConditions s).mon.flags.get i).level = s.condition i := by
  show ((s.mon.handAll s.clock s.condition).flags.get i).level = _
  unfold Monitor.handAll
  rw [FilteredFlags.get_mapIds, Filtered.hand_level]

/-- The outputs alone change. -/
theorem driveLines_same (s : State) (h1 : s.mon.tripOut = s.mon.tripSet) (h2 : s.mon.attnOut = s.mon.attnLevel) :
    driveLines s = s := by
  have : s.mon.driveOutputs = s.mon := by
    unfold Monitor.driveOutputs
    rw [← h1, ← h2]
  unfold driveLines
  rw [this]
  rfl

/-! ## The whole end of an event -/

/-- A settled state is left as it is. -/
theorem settle_settled (s : State) (h : Settled s) : settle s = s := by
  obtain ⟨h1, h2, h3⟩ := h
  have hc : handConditions s = s := handConditions_same s fun i => h1 i (mem_filteredIds i)
  unfold settle
  rw [hc]
  have : (s.mon.tripSet && !s.mon.tripOut) = false := by
    rw [h2]
    cases s.mon.tripSet <;> rfl
  simp only [this, Bool.false_eq_true, if_false]
  exact driveLines_same s h2 h3

/-- An event that leaves the monitor and every condition of a settled state as they were ends as it stands. -/
theorem settle_quiet (s t : State) (h : Settled s) (hm : t.mon = s.mon) (hc : ∀ i, t.condition i = s.condition i) :
    settle t = t := by
  apply settle_settled
  obtain ⟨h1, h2, h3⟩ := h
  exact ⟨fun i hi => by rw [hm, hc]; exact h1 i hi, by rw [hm]; exact h2, by rw [hm]; exact h3⟩

/-- Where the handed flags assert no TRIP_OUT afresh, the end of an event changes the monitor alone. -/
theorem settle_noTrip (s : State)
    (h : ((handConditions s).mon.tripSet && !(handConditions s).mon.tripOut) = false) :
    settle s = s.withMon (handConditions s).mon.driveOutputs := by
  unfold settle
  simp only [h, Bool.false_eq_true, if_false]
  rfl

/-- Where they assert it afresh, the trip event follows, and the conditions it ends are handed. -/
theorem settle_trip (s : State)
    (h : ((handConditions s).mon.tripSet && !(handConditions s).mon.tripOut) = true) :
    settle s = driveLines (handConditions (tripEvent (handConditions s))) := by
  unfold settle
  simp only [h, if_true]

/-- An event that changes no filtered flag's level or setting, but alerts, notice mask or other fields of the monitor,
ends with ATTN_OUT at its new level. -/
theorem settle_alerts (s t : State) (h : Settled s) (hf : t.mon.flags = s.mon.flags) (ht : t.mon.times = s.mon.times)
    (he : t.mon.enabled = s.mon.enabled) (hs : t.mon.estop = s.mon.estop) (hp : t.mon.forceTrip = s.mon.forceTrip)
    (ho : t.mon.tripOut = s.mon.tripOut) (hc : ∀ i, t.condition i = s.condition i) :
    settle t = t.withMon { t.mon with attnOut := t.mon.attnLevel } := by
  obtain ⟨h1, h2, _⟩ := h
  have hset : t.mon.tripSet = s.mon.tripSet := by
    have : t.mon.filteredSet = s.mon.filteredSet := by
      funext i
      unfold Monitor.filteredSet
      rw [hf, he, ht]
    unfold Monitor.tripSet
    rw [this, hs, hp]
  have hh : handConditions t = t := handConditions_same t fun i => by
    rw [hf, hc]
    exact h1 i (mem_filteredIds i)
  have ho' : t.mon.tripOut = t.mon.tripSet := by rw [ho, h2, hset]
  have hn : ((handConditions t).mon.tripSet && !(handConditions t).mon.tripOut) = false := by
    rw [hh, ho']
    cases t.mon.tripSet <;> rfl
  rw [settle_noTrip t hn, hh]
  unfold Monitor.driveOutputs
  rw [← ho']

/-! ## What the end of an event never touches -/

theorem handConditions_frame (s : State) : ∃ m, handConditions s = s.withMon m := ⟨_, rfl⟩

theorem driveLines_frame (s : State) : ∃ m, driveLines s = s.withMon m := ⟨_, rfl⟩

end Sys2Proof.Machine
end

