-- ==== Sys2Proof/Laws/Ops.lean ====
section
/-! SUPPORT. What each shared operation on groups, records and windows can change, said once; the fields that the end of an event never touches. -/

namespace Sys2Proof.Machine

/-! ## Excursions and windows -/

/-- A closed record reaches the log, and LOG_LOST where the log is full: nothing else changes (R167). -/
theorem logRecord_frame (r : ExcRecord) (s : State) :
    ∃ e a, logRecord r s = (s.withExc e).withMon { s.mon with alerts := a } := by
  unfold logRecord
  split
  · exact ⟨{ s.exc with log := s.exc.log ++ [r] }, s.mon.alerts, rfl⟩
  · exact ⟨{ s.exc with lost := satInc s.exc.lost }, { s.mon.alerts with logLost := true }, rfl⟩

/-- The log keeps its capacity (R167). -/
theorem logRecord_length (r : ExcRecord) (s : State) (h : s.exc.log.length ≤ 32) :
    (logRecord r s).exc.log.length ≤ 32 := by
  unfold logRecord
  split
  · next hlt =>
    have : s.exc.log.length < 32 := hlt
    simp only [State.withExc_exc, List.length_append, List.length_cons, List.length_nil]
    omega
  · exact h

/-- An opened SLIP fills the group's open slot with the next sequence number (R163, R164). -/
theorem openExcursion_spec (g : GroupId) (p v : Nat) (s : State) :
    openExcursion g p v s =
      (s.withGroup g { s.groups.get g with
        openSlip := some { seq := s.exc.counter, start := s.clock, peakPosition := p, peakSpeed := v,
                           tag := (s.scheds.get g).activeTag } }).withExc
        { s.exc with counter := s.exc.counter + 1#16 } := rfl

theorem closeExcursion_none (g : GroupId) (oc : ExcOutcome) (s : State) (h : (s.groups.get g).openSlip = none) :
    closeExcursion g oc s = (s, none) := by
  simp [closeExcursion, h]

theorem closeExcursion_some (g : GroupId) (oc : ExcOutcome) (s : State) (o : OpenSlip)
    (h : (s.groups.get g).openSlip = some o) :
    closeExcursion g oc s =
      (logRecord (o.close g s.clock oc) (s.withGroup g { s.groups.get g with openSlip := none }),
        some (o.close g s.clock oc)) := by
  simp [closeExcursion, h]

/-- Closing empties the open slot, and touches the log and LOG_LOST beside it (R165). -/
theorem closeExcursion_frame (g : GroupId) (oc : ExcOutcome) (s : State) :
    ∃ e a, (closeExcursion g oc s).1 =
      ((s.withGroup g { s.groups.get g with openSlip := none }).withExc e).withMon { s.mon with alerts := a } := by
  cases h : (s.groups.get g).openSlip with
  | none =>
    rw [closeExcursion_none g oc s h]
    refine ⟨s.exc, s.mon.alerts, ?_⟩
    have : ({ s.groups.get g with openSlip := none } : Group) = s.groups.get g := by rw [← h]
    rw [this]
    simp [State.withGroup, State.withExc, State.withMon]
  | some o =>
    rw [closeExcursion_some g oc s o h]
    obtain ⟨e, a, he⟩ := logRecord_frame (o.close g s.clock oc) (s.withGroup g { s.groups.get g with openSlip := none })
    exact ⟨e, a, he⟩

/-- A record written closed takes a sequence number and goes to the log (R163, R166). -/
theorem writeClosed_frame (g : GroupId) (k : ExcKind) (st : CellTime) (oc : ExcOutcome) (s : State) :
    ∃ e a, (writeClosed g k st oc s).1 = (s.withExc e).withMon { s.mon with alerts := a } := by
  unfold writeClosed
  exact logRecord_frame _ _

/-- The causes of one event touch the group's window alone (R172). -/
theorem windowCause_frame (g : GroupId) (r : Option ExcRecord) (own : Option CauseKind) (s : State) :
    ∃ w, windowCause g r own s = s.withWindow g w := by
  have hs : s = s.withWindow g (s.windows.get g) := by simp [State.withWindow]
  unfold windowCause
  simp only
  split
  · split
    · exact ⟨_, rfl⟩
    · exact ⟨_, hs⟩
  · exact ⟨_, hs⟩

/-- A window that is not OPEN-VALID takes no cause (R172). -/
theorem windowCause_closed (g : GroupId) (r : Option ExcRecord) (own : Option CauseKind) (s : State)
    (h : (s.windows.get g).state ≠ .openValid) : windowCause g r own s = s := by
  simp [windowCause, h]

/-! ## Claims and entries -/

/-- A HELD claim leaves every group that is not driving as it is (R76). -/
theorem claimHeld_idle (g : GroupId) (s : State) (h : (s.groups.get g).state.driving = false) : claimHeld g s = s := by
  simp [claimHeld, h]

/-- A HELD claim touches its group, posted demands, the log and LOG_LOST, and the group's window (R77). -/
theorem claimHeld_frame (g : GroupId) (s : State) :
    ∃ x p e a w, claimHeld g s =
      ((((s.withGroup g x).withPosted p).withExc e).withMon { s.mon with alerts := a }).withWindow g w := by
  unfold claimHeld
  split
  · obtain ⟨e, a, he⟩ := closeExcursion_frame g .held s
    generalize closeExcursion g .held s = c at he
    obtain ⟨c1, r⟩ := c
    simp only at he
    subst he
    obtain ⟨w, hw⟩ := windowCause_frame g r (some .held)
      ((postZero g (((s.withGroup g { s.groups.get g with openSlip := none }).withExc e).withMon
        { s.mon with alerts := a })).withGroup g
        { (postZero g (((s.withGroup g { s.groups.get g with openSlip := none }).withExc e).withMon
            { s.mon with alerts := a })).groups.get g with
          state := .held, engageDue := none, rampProgress := 0, confirm := 0 })
    refine ⟨{ s.groups.get g with openSlip := none, state := .held, engageDue := none, rampProgress := 0, confirm := 0 },
      postZeroTo (s.groups.get g).members s.posted, e, a, w, ?_⟩
    simp only
    rw [hw]
    simp [postZero, State.withGroup, State.withPosted, State.withExc, State.withMon, State.withWindow, Group.members]
  · refine ⟨s.groups.get g, s.posted, s.exc, s.mon.alerts, s.windows.get g, ?_⟩
    simp [State.withGroup, State.withPosted, State.withExc, State.withMon, State.withWindow]

/-- The state a HELD claim leaves a driving group in (R77). -/
theorem claimHeld_group (g : GroupId) (s : State) (h : (s.groups.get g).state.driving = true) :
    (claimHeld g s).groups.get g =
      { s.groups.get g with openSlip := none, state := .held, engageDue := none, rampProgress := 0, confirm := 0 } := by
  unfold claimHeld
  rw [if_pos h]
  obtain ⟨e, a, he⟩ := closeExcursion_frame g .held s
  generalize closeExcursion g .held s = c at he
  obtain ⟨c1, r⟩ := c
  simp only at he
  subst he
  obtain ⟨w, hw⟩ := windowCause_frame g r (some .held)
    ((postZero g (((s.withGroup g { s.groups.get g with openSlip := none }).withExc e).withMon
      { s.mon with alerts := a })).withGroup g
      { (postZero g (((s.withGroup g { s.groups.get g with openSlip := none }).withExc e).withMon
          { s.mon with alerts := a })).groups.get g with
        state := .held, engageDue := none, rampProgress := 0, confirm := 0 })
  simp only
  rw [hw]
  simp [postZero]

/-- Entry to FREE touches its group and the posted demands (R63, R64, R65). -/
theorem enterFree_spec (g : GroupId) (s : State) :
    enterFree g s = (s.withPosted (postZeroTo (s.groups.get g).members s.posted)).withGroup g
      { s.groups.get g with state := .free, periodDue := none, engageDue := none, sync := false } := rfl

/-- What a trip event, a claim or an end of event may change: groups, posted demands, permits, the monitor, the log,
windows and rings, and nothing else. -/
def SameElsewhere (s t : State) : Prop :=
  t.clock = s.clock ∧ t.mark = s.mark ∧ t.units = s.units ∧ t.links = s.links ∧ t.cal = s.cal
    ∧ t.settings = s.settings ∧ t.road = s.road ∧ t.scheds = s.scheds ∧ t.port = s.port
    ∧ t.pending = s.pending ∧ t.freeCount = s.freeCount

theorem SameElsewhere.refl (s : State) : SameElsewhere s s :=
  ⟨rfl, rfl, rfl, rfl, rfl, rfl, rfl, rfl, rfl, rfl, rfl⟩

theorem SameElsewhere.trans {s t u : State} (h : SameElsewhere s t) (k : SameElsewhere t u) : SameElsewhere s u := by
  obtain ⟨h1, h2, h3, h4, h5, h6, h7, h8, h9, h10, h11⟩ := h
  obtain ⟨k1, k2, k3, k4, k5, k6, k7, k8, k9, k10, k11⟩ := k
  exact ⟨k1.trans h1, k2.trans h2, k3.trans h3, k4.trans h4, k5.trans h5, k6.trans h6, k7.trans h7, k8.trans h8,
    k9.trans h9, k10.trans h10, k11.trans h11⟩

theorem sameElsewhere_withMon (s : State) (m : Monitor) : SameElsewhere s (s.withMon m) := SameElsewhere.refl s

theorem sameElsewhere_claimHeld (g : GroupId) (s : State) : SameElsewhere s (claimHeld g s) := by
  obtain ⟨x, p, e, a, w, h⟩ := claimHeld_frame g s
  rw [h]
  exact SameElsewhere.refl s

theorem sameElsewhere_claimStation (n : Station) (s : State) : SameElsewhere s (claimStation n s) := by
  unfold claimStation
  split
  · exact sameElsewhere_claimHeld _ s
  · exact SameElsewhere.refl s

/-- The record of the trip event touches the open slot, the log and LOG_LOST (R80, R165, R166). -/
theorem tripRecord_frame (g : GroupId) (s : State) :
    ∃ x e a, (tripRecord g s).1 = ((s.withGroup g x).withExc e).withMon { s.mon with alerts := a } := by
  have hs : s.withGroup g (s.groups.get g) = s := by simp [State.withGroup]
  unfold tripRecord
  split
  · obtain ⟨e, a, he⟩ := closeExcursion_frame g .tripped s
    exact ⟨_, e, a, he⟩
  · split
    · obtain ⟨e, a, he⟩ := writeClosed_frame g .trip s.clock .tripped s
      exact ⟨s.groups.get g, e, a, by rw [hs]; exact he⟩
    · obtain ⟨e, a, he⟩ := writeClosed_frame g .trip s.clock .tripped s
      exact ⟨s.groups.get g, e, a, by rw [hs]; exact he⟩
    all_goals exact ⟨s.groups.get g, s.exc, s.mon.alerts, by rw [hs]; rfl⟩

theorem sameElsewhere_withGroup (g : GroupId) (s : State) (x : Group) : SameElsewhere s (s.withGroup g x) :=
  SameElsewhere.refl s

theorem sameElsewhere_withRing (g : GroupId) (s : State) (x : Ring) : SameElsewhere s (s.withRing g x) :=
  SameElsewhere.refl s

theorem sameElsewhere_postZero (g : GroupId) (s : State) : SameElsewhere s (postZero g s) := SameElsewhere.refl s

theorem sameElsewhere_windowCause (g : GroupId) (r : Option ExcRecord) (own : Option CauseKind) (s : State) :
    SameElsewhere s (windowCause g r own s) := by
  obtain ⟨w, hw⟩ := windowCause_frame g r own s
  rw [hw]
  exact SameElsewhere.refl s

theorem sameElsewhere_tripRecord (g : GroupId) (s : State) : SameElsewhere s (tripRecord g s).1 := by
  obtain ⟨x, e, a, h⟩ := tripRecord_frame g s
  rw [h]
  exact SameElsewhere.refl s

theorem sameElsewhere_tripGroup (g : GroupId) (s : State) : SameElsewhere s (tripGroup g s) := by
  unfold tripGroup
  split
  · exact (sameElsewhere_tripRecord g s).trans ((sameElsewhere_postZero g _).trans
      ((sameElsewhere_withGroup g _ _).trans ((sameElsewhere_withRing g _ _).trans
        (sameElsewhere_windowCause g _ _ _))))
  · exact SameElsewhere.refl s

theorem sameElsewhere_tripGroups (gs : List GroupId) (s : State) :
    SameElsewhere s (gs.foldl (fun t g => tripGroup g t) s) := by
  induction gs generalizing s with
  | nil => exact SameElsewhere.refl s
  | cons g gs ih => exact (sameElsewhere_tripGroup g s).trans (ih _)

theorem sameElsewhere_withPermit (s : State) (p : Permit) : SameElsewhere s (s.withPermit p) := SameElsewhere.refl s

theorem sameElsewhere_tripEvent (s : State) : SameElsewhere s (tripEvent s) := by
  unfold tripEvent
  refine SameElsewhere.trans ?_ (sameElsewhere_tripGroups allFour _)
  exact (sameElsewhere_withMon s _).trans (sameElsewhere_withPermit _ _)

/-- The end of an event changes groups, posted demands, permits, the monitor, the log, windows and rings alone. -/
theorem sameElsewhere_settle (s : State) : SameElsewhere s (settle s) := by
  unfold settle
  simp only
  split
  · exact (sameElsewhere_withMon s _).trans
      ((sameElsewhere_tripEvent _).trans ((sameElsewhere_withMon _ _).trans (sameElsewhere_withMon _ _)))
  · exact (sameElsewhere_withMon s _).trans (sameElsewhere_withMon _ _)

@[simp] theorem settle_clock (s : State) : (settle s).clock = s.clock := (sameElsewhere_settle s).1
@[simp] theorem settle_mark (s : State) : (settle s).mark = s.mark := (sameElsewhere_settle s).2.1
@[simp] theorem settle_units (s : State) : (settle s).units = s.units := (sameElsewhere_settle s).2.2.1
@[simp] theorem settle_links (s : State) : (settle s).links = s.links := (sameElsewhere_settle s).2.2.2.1
@[simp] theorem settle_cal (s : State) : (settle s).cal = s.cal := (sameElsewhere_settle s).2.2.2.2.1
@[simp] theorem settle_settings (s : State) : (settle s).settings = s.settings := (sameElsewhere_settle s).2.2.2.2.2.1
@[simp] theorem settle_road (s : State) : (settle s).road = s.road := (sameElsewhere_settle s).2.2.2.2.2.2.1
@[simp] theorem settle_scheds (s : State) : (settle s).scheds = s.scheds := (sameElsewhere_settle s).2.2.2.2.2.2.2.1
@[simp] theorem settle_port (s : State) : (settle s).port = s.port := (sameElsewhere_settle s).2.2.2.2.2.2.2.2.1
@[simp] theorem settle_pending (s : State) : (settle s).pending = s.pending :=
  (sameElsewhere_settle s).2.2.2.2.2.2.2.2.2.1
@[simp] theorem settle_freeCount (s : State) : (settle s).freeCount = s.freeCount :=
  (sameElsewhere_settle s).2.2.2.2.2.2.2.2.2.2

/-! ## The operations neither read nor change the port -/

theorem logRecord_withPort (r : ExcRecord) (s : State) (p : Port) :
    logRecord r (s.withPort p) = (logRecord r s).withPort p := by
  by_cases h : s.exc.log.length < Config.logCapacity <;> simp [logRecord, h, State.withPort, State.withExc, State.withMon]

theorem windowCause_withPort (g : GroupId) (r : Option ExcRecord) (own : Option CauseKind) (s : State) (p : Port) :
    windowCause g r own (s.withPort p) = (windowCause g r own s).withPort p := by
  by_cases h : (s.windows.get g).state = .openValid
  · cases hc : firstCause (s.windows.get g).limit s.clock r own <;> simp [windowCause, h, hc] <;> rfl
  · simp [windowCause, h]

theorem closeExcursion_withPort (g : GroupId) (oc : ExcOutcome) (s : State) (p : Port) :
    closeExcursion g oc (s.withPort p) = ((closeExcursion g oc s).1.withPort p, (closeExcursion g oc s).2) := by
  cases ho : (s.groups.get g).openSlip with
  | none =>
    rw [closeExcursion_none g oc s ho, closeExcursion_none g oc (s.withPort p) ho]
  | some o =>
    rw [closeExcursion_some g oc s o ho, closeExcursion_some g oc (s.withPort p) o ho]
    exact congrArg (fun x => (x, some (o.close g s.clock oc)))
      (logRecord_withPort (o.close g s.clock oc) (s.withGroup g { s.groups.get g with openSlip := none }) p)

theorem claimHeld_withPort (g : GroupId) (s : State) (p : Port) :
    claimHeld g (s.withPort p) = (claimHeld g s).withPort p := by
  cases hd : (s.groups.get g).state.driving with
  | false => simp [claimHeld, hd]
  | true =>
    simp only [claimHeld, State.withPort_groups, hd, if_true]
    rw [closeExcursion_withPort]
    generalize closeExcursion g .held s = c
    obtain ⟨s1, r⟩ := c
    exact windowCause_withPort g r (some .held) ((postZero g s1).withGroup g
      { (postZero g s1).groups.get g with state := .held, engageDue := none, rampProgress := 0, confirm := 0 }) p

theorem claimStation_withPort (n : Station) (s : State) (p : Port) :
    claimStation n (s.withPort p) = (claimStation n s).withPort p := by
  unfold claimStation
  have : (s.withPort p).groupOf n = s.groupOf n := rfl
  rw [this]
  split
  · exact claimHeld_withPort _ _ p
  · rfl

theorem claimRemoved_withPort (removed : BitVec 4) (s : State) (p : Port) :
    claimRemoved removed (s.withPort p) = (claimRemoved removed s).withPort p := by
  unfold claimRemoved
  have step : ∀ (gs : List GroupId) (t : State),
      gs.foldl (fun t g => if (t.groups.get g).state != .undefined
        && (t.groups.get g).members.any (fun m => removed.getLsbD m.station.val) then claimHeld g t else t) (t.withPort p)
      = (gs.foldl (fun t g => if (t.groups.get g).state != .undefined
        && (t.groups.get g).members.any (fun m => removed.getLsbD m.station.val) then claimHeld g t else t) t).withPort p := by
    intro gs
    induction gs with
    | nil => intro t; rfl
    | cons g gs ih =>
      intro t
      simp only [List.foldl_cons, State.withPort_groups, claimHeld_withPort]
      by_cases h : ((t.groups.get g).state != GroupState.undefined
        && (t.groups.get g).members.any fun m => removed.getLsbD m.station.val) = true
      · rw [if_pos h, if_pos h]
        exact ih _
      · rw [if_neg h, if_neg h]
        exact ih t
  exact step allFour s

end Sys2Proof.Machine
end

