-- ==== Sys2Proof/WellFormed.lean ====
section
/-! DEFINITION. Which commands the outside can form: a request body has at most 250 bytes, and UNASSIGNED_CODE carries a code that is not assigned. -/

namespace Sys2Proof

/-- R180: a body is at most 250 bytes long. -/
def Frame.wf (f : Frame) : Bool := decide (f.body.length ≤ Config.maxBody)

/-- R186: the code of the row UNASSIGNED_CODE is not in the code list. -/
def Instr.codeFits : Instr → Bool
  | .unassignedCode c _ _ => (ReqKind.ofCode c).isNone
  | _ => true

/-- A command that the outside can form. The meanings are total all the same. -/
def Instr.wf (i : Instr) : Bool :=
  i.codeFits && (match i.frame? with | some f => f.wf | none => true)

end Sys2Proof
end

