-- ==== Sys2Proof/Laws/PerInstr.lean ====
section
/-! SUPPORT. One lemma per command: the frame of a well-formed request row has a body of at most 250 bytes and stands for that row again; no other row has a frame. -/

namespace Sys2Proof

/-- The request row a good frame stands for (sections 10.1, 10.7, R186). -/
def Frame.request (f : Frame) : Instr :=
  match ReqKind.ofCode f.code with
  | some k => k.row f.tag f.body
  | none => .unassignedCode f.code f.tag f.body

end Sys2Proof

namespace Sys2Proof.Laws.RequestForm

/-- R180, R186. -/
def Statement (i : Instr) : Prop :=
  i.wf = true → ∀ f, i.frame? = some f → f.body.length ≤ 250 ∧ f.request = i

theorem Statement.of_none {i : Instr} (h : i.frame? = none) : Statement i := by
  intro _ f hf
  rw [h] at hf
  cases hf

theorem Statement.of_row {k : ReqKind} {i : Instr} {tag : Byte} {body : List Byte}
    (hk : ReqKind.ofCode k.code = some k) (hf : i.frame? = some ⟨k.code, tag, body⟩) (hr : k.row tag body = i) :
    Statement i := by
  intro hw f h
  rw [hf] at h
  cases h
  constructor
  · simp only [Instr.wf, hf, Frame.wf, Config.maxBody, Bool.and_eq_true] at hw
    exact of_decide_eq_true hw.2
  · simp [Frame.request, hk, hr]

theorem coldReset (lines : LineLevels) :
    Statement (.coldReset lines) := Statement.of_none rfl

theorem portReset :
    Statement (.portReset) := Statement.of_none rfl

theorem markInEdge :
    Statement (.markInEdge) := Statement.of_none rfl

theorem encoderTransition (n : Station) (a b : Bool) (frac : Fin 32) :
    Statement (.encoderTransition n a b frac) := Statement.of_none rfl

theorem indexEvent (n : Station) :
    Statement (.indexEvent n) := Statement.of_none rfl

theorem estimationIntervalExpiry (n : Station) :
    Statement (.estimationIntervalExpiry n) := Statement.of_none rfl

theorem dlkFrameReceived (n : Station) (f : DlkFrame) :
    Statement (.dlkFrameReceived n f) := Statement.of_none rfl

theorem quietTimerExpiry (n : Station) :
    Statement (.quietTimerExpiry n) := Statement.of_none rfl

theorem offerTimerExpiry (n : Station) :
    Statement (.offerTimerExpiry n) := Statement.of_none rfl

theorem negotiationTimerExpiry (n : Station) :
    Statement (.negotiationTimerExpiry n) := Statement.of_none rfl

theorem updateTimerExpiry (n : Station) :
    Statement (.updateTimerExpiry n) := Statement.of_none rfl

theorem calWriteCompletion :
    Statement .calWriteCompletion := Statement.of_none rfl

theorem calLockCompletion :
    Statement (.calLockCompletion) := Statement.of_none rfl

theorem periodTimerExpiry (g : GroupId) :
    Statement (.periodTimerExpiry g) := Statement.of_none rfl

theorem engageTimerExpiry (g : GroupId) :
    Statement (.engageTimerExpiry g) := Statement.of_none rfl

theorem segmentActivation :
    Statement (.segmentActivation) := Statement.of_none rfl

theorem blendStep (g : GroupId) :
    Statement (.blendStep g) := Statement.of_none rfl

theorem durationEnd (g : GroupId) :
    Statement (.durationEnd g) := Statement.of_none rfl

theorem permitTimerExpiry :
    Statement (.permitTimerExpiry) := Statement.of_none rfl

theorem filterTimerExpiry (i : FilteredId) :
    Statement (.filterTimerExpiry i) := Statement.of_none rfl

theorem tripInChange (level : Bool) :
    Statement (.tripInChange level) := Statement.of_none rfl

theorem estopInChange (asserted : Bool) :
    Statement (.estopInChange asserted) := Statement.of_none rfl

theorem mpFrameComplete (check2 : Byte) :
    Statement (.mpFrameComplete check2) := Statement.of_none rfl

theorem gapTimerExpiry :
    Statement (.gapTimerExpiry) := Statement.of_none rfl

theorem replySent :
    Statement (.replySent) := Statement.of_none rfl

theorem unassignedCode (code tag : Byte) (body : List Byte) :
    Statement (.unassignedCode code tag body) := by
  intro hw f h
  cases h
  simp only [Instr.wf, Instr.frame?, Frame.wf, Config.maxBody, Bool.and_eq_true] at hw
  constructor
  · exact of_decide_eq_true hw.2
  · have hc : ReqKind.ofCode code = none := by simpa [Instr.codeFits] using hw.1
    simp [Frame.request, hc]

theorem clockRead (tag : Byte) (body : List Byte) :
    Statement (.clockRead tag body) :=
  Statement.of_row (k := .clockRead) (by decide) rfl rfl

theorem markArm (tag : Byte) (body : List Byte) :
    Statement (.markArm tag body) :=
  Statement.of_row (k := .markArm) (by decide) rfl rfl

theorem markRead (tag : Byte) (body : List Byte) :
    Statement (.markRead tag body) :=
  Statement.of_row (k := .markRead) (by decide) rfl rfl

theorem encoderRead (tag : Byte) (body : List Byte) :
    Statement (.encoderRead tag body) :=
  Statement.of_row (k := .encoderRead) (by decide) rfl rfl

theorem encoderCounters (tag : Byte) (body : List Byte) :
    Statement (.encoderCounters tag body) :=
  Statement.of_row (k := .encoderCounters) (by decide) rfl rfl

theorem linkEnable (tag : Byte) (body : List Byte) :
    Statement (.linkEnable tag body) :=
  Statement.of_row (k := .linkEnable) (by decide) rfl rfl

theorem linkRestart (tag : Byte) (body : List Byte) :
    Statement (.linkRestart tag body) :=
  Statement.of_row (k := .linkRestart) (by decide) rfl rfl

theorem linkStatus (tag : Byte) (body : List Byte) :
    Statement (.linkStatus tag body) :=
  Statement.of_row (k := .linkStatus) (by decide) rfl rfl

theorem linkCounters (tag : Byte) (body : List Byte) :
    Statement (.linkCounters tag body) :=
  Statement.of_row (k := .linkCounters) (by decide) rfl rfl

theorem calWrite (tag : Byte) (body : List Byte) :
    Statement (.calWrite tag body) :=
  Statement.of_row (k := .calWrite) (by decide) rfl rfl

theorem calRead (tag : Byte) (body : List Byte) :
    Statement (.calRead tag body) :=
  Statement.of_row (k := .calRead) (by decide) rfl rfl

theorem calLock (tag : Byte) (body : List Byte) :
    Statement (.calLock tag body) :=
  Statement.of_row (k := .calLock) (by decide) rfl rfl

theorem calState (tag : Byte) (body : List Byte) :
    Statement (.calState tag body) :=
  Statement.of_row (k := .calState) (by decide) rfl rfl

theorem capabilityRead (tag : Byte) (body : List Byte) :
    Statement (.capabilityRead tag body) :=
  Statement.of_row (k := .capabilityRead) (by decide) rfl rfl

theorem stationSet (tag : Byte) (body : List Byte) :
    Statement (.stationSet tag body) :=
  Statement.of_row (k := .stationSet) (by decide) rfl rfl

theorem stationRead (tag : Byte) (body : List Byte) :
    Statement (.stationRead tag body) :=
  Statement.of_row (k := .stationRead) (by decide) rfl rfl

theorem groupDefine (tag : Byte) (body : List Byte) :
    Statement (.groupDefine tag body) :=
  Statement.of_row (k := .groupDefine) (by decide) rfl rfl

theorem groupTune (tag : Byte) (body : List Byte) :
    Statement (.groupTune tag body) :=
  Statement.of_row (k := .groupTune) (by decide) rfl rfl

theorem groupRead (tag : Byte) (body : List Byte) :
    Statement (.groupRead tag body) :=
  Statement.of_row (k := .groupRead) (by decide) rfl rfl

theorem engage (tag : Byte) (body : List Byte) :
    Statement (.engage tag body) :=
  Statement.of_row (k := .engage) (by decide) rfl rfl

theorem release (tag : Byte) (body : List Byte) :
    Statement (.release tag body) :=
  Statement.of_row (k := .release) (by decide) rfl rfl

theorem disband (tag : Byte) (body : List Byte) :
    Statement (.disband tag body) :=
  Statement.of_row (k := .disband) (by decide) rfl rfl

theorem segmentQueue (tag : Byte) (body : List Byte) :
    Statement (.segmentQueue tag body) :=
  Statement.of_row (k := .segmentQueue) (by decide) rfl rfl

theorem segmentFlush (tag : Byte) (body : List Byte) :
    Statement (.segmentFlush tag body) :=
  Statement.of_row (k := .segmentFlush) (by decide) rfl rfl

theorem segmentCancel (tag : Byte) (body : List Byte) :
    Statement (.segmentCancel tag body) :=
  Statement.of_row (k := .segmentCancel) (by decide) rfl rfl

theorem scheduleRead (tag : Byte) (body : List Byte) :
    Statement (.scheduleRead tag body) :=
  Statement.of_row (k := .scheduleRead) (by decide) rfl rfl

theorem permitTime (tag : Byte) (body : List Byte) :
    Statement (.permitTime tag body) :=
  Statement.of_row (k := .permitTime) (by decide) rfl rfl

theorem permitGrant (tag : Byte) (body : List Byte) :
    Statement (.permitGrant tag body) :=
  Statement.of_row (k := .permitGrant) (by decide) rfl rfl

theorem permitRenew (tag : Byte) (body : List Byte) :
    Statement (.permitRenew tag body) :=
  Statement.of_row (k := .permitRenew) (by decide) rfl rfl

theorem permitRead (tag : Byte) (body : List Byte) :
    Statement (.permitRead tag body) :=
  Statement.of_row (k := .permitRead) (by decide) rfl rfl

theorem filterSet (tag : Byte) (body : List Byte) :
    Statement (.filterSet tag body) :=
  Statement.of_row (k := .filterSet) (by decide) rfl rfl

theorem sourceEnable (tag : Byte) (body : List Byte) :
    Statement (.sourceEnable tag body) :=
  Statement.of_row (k := .sourceEnable) (by decide) rfl rfl

theorem flagsRead (tag : Byte) (body : List Byte) :
    Statement (.flagsRead tag body) :=
  Statement.of_row (k := .flagsRead) (by decide) rfl rfl

theorem flagsClear (tag : Byte) (body : List Byte) :
    Statement (.flagsClear tag body) :=
  Statement.of_row (k := .flagsClear) (by decide) rfl rfl

theorem forceSet (tag : Byte) (body : List Byte) :
    Statement (.forceSet tag body) :=
  Statement.of_row (k := .forceSet) (by decide) rfl rfl

theorem noticeMask (tag : Byte) (body : List Byte) :
    Statement (.noticeMask tag body) :=
  Statement.of_row (k := .noticeMask) (by decide) rfl rfl

theorem excursionFetch (tag : Byte) (body : List Byte) :
    Statement (.excursionFetch tag body) :=
  Statement.of_row (k := .excursionFetch) (by decide) rfl rfl

theorem windowOpen (tag : Byte) (body : List Byte) :
    Statement (.windowOpen tag body) :=
  Statement.of_row (k := .windowOpen) (by decide) rfl rfl

theorem windowRead (tag : Byte) (body : List Byte) :
    Statement (.windowRead tag body) :=
  Statement.of_row (k := .windowRead) (by decide) rfl rfl

theorem windowClose (tag : Byte) (body : List Byte) :
    Statement (.windowClose tag body) :=
  Statement.of_row (k := .windowClose) (by decide) rfl rfl

theorem ringRead (tag : Byte) (body : List Byte) :
    Statement (.ringRead tag body) :=
  Statement.of_row (k := .ringRead) (by decide) rfl rfl

theorem ringFreeze (tag : Byte) (body : List Byte) :
    Statement (.ringFreeze tag body) :=
  Statement.of_row (k := .ringFreeze) (by decide) rfl rfl

theorem ringUnfreeze (tag : Byte) (body : List Byte) :
    Statement (.ringUnfreeze tag body) :=
  Statement.of_row (k := .ringUnfreeze) (by decide) rfl rfl

theorem cellStatus (tag : Byte) (body : List Byte) :
    Statement (.cellStatus tag body) :=
  Statement.of_row (k := .cellStatus) (by decide) rfl rfl

theorem portCounters (tag : Byte) (body : List Byte) :
    Statement (.portCounters tag body) :=
  Statement.of_row (k := .portCounters) (by decide) rfl rfl

theorem resetPrepare (tag : Byte) (body : List Byte) :
    Statement (.resetPrepare tag body) :=
  Statement.of_row (k := .resetPrepare) (by decide) rfl rfl

theorem resetExecute (tag : Byte) (body : List Byte) :
    Statement (.resetExecute tag body) :=
  Statement.of_row (k := .resetExecute) (by decide) rfl rfl

theorem mpByteReceived (b : Byte) (lineError : Bool) :
    Statement (.mpByteReceived b lineError) := Statement.of_none rfl

end Sys2Proof.Laws.RequestForm
end

