-- ==== Sys2Proof/Laws/Port.lean ====
section
/-! SUPPORT. The taking of a request on an idle port, said once: what `submit` leaves for a defined code, a wrong length and an unassigned code. -/

namespace Sys2Proof.Machine

/-- The code of a request finds it (section 10.7). -/
theorem ReqKind.ofCode_code (k : ReqKind) : ReqKind.ofCode k.code = some k := by
  cases k <;> decide

/-- On an idle port a good frame is taken at once (R183). -/
theorem acceptFrame_idle (f : Frame) (s : State) (h : PortIdle s) : acceptFrame f s = takeRequest f s := by
  obtain ⟨_, _, _, _, _, _, _, _, _, _, _, _, _, _, _, ⟨_, _, queue, tx, _, _, _⟩, _, _⟩ := s
  obtain ⟨h1, h2⟩ := h
  simp only at h1 h2
  subst h1 h2
  rfl

/-- On a busy port a good frame joins a queue that has room (R182). -/
theorem acceptFrame_busy (f : Frame) (s : State) (h : s.port.tx.isSome = true) (hq : s.port.queue.length < 4) :
    acceptFrame f s = s.withPort { s.port with queue := s.port.queue ++ [f] } := by
  have hq' : s.port.queue.length < Config.inputQueueCapacity := hq
  unfold acceptFrame takeNext
  rw [if_pos hq']
  cases ht : s.port.tx with
  | none => simp [ht] at h
  | some t => simp [ht]

/-- The preparation is handled first (R191). -/
def State.taking (s : State) : State := s.withPort { s.port with prepared := false }

/-- A taken request of a defined code and the right length is performed and its reply begins (R183, R186). -/
theorem takeRequest_defined (k : ReqKind) (tag : Byte) (body : List Byte) (s : State)
    (hb : body.length = k.bodyLength) :
    takeRequest ⟨k.code, tag, body⟩ s =
      startReply ⟨k.code, tag, body⟩ (ordersReset ⟨k.code, tag, body⟩ (perform k s.port.prepared body s.taking).2)
        (perform k s.port.prepared body s.taking).2 (perform k s.port.prepared body s.taking).1 := by
  unfold takeRequest examine
  simp only [ReqKind.ofCode_code, hb, if_true]
  rfl

/-- A wrong length is answered with BAD_LENGTH (R186). -/
theorem takeRequest_badLength (k : ReqKind) (tag : Byte) (body : List Byte) (s : State)
    (hb : body.length ≠ k.bodyLength) :
    takeRequest ⟨k.code, tag, body⟩ s = s.replied k.code tag .badLength [] := by
  unfold takeRequest examine
  simp only [ReqKind.ofCode_code, hb, if_false]
  simp [refuse, ordersReset, startReply, State.replied, State.withPort, Config.byteTime]

/-- An unassigned code is answered with UNKNOWN_CODE (R186). -/
theorem takeRequest_unknown (c tag : Byte) (body : List Byte) (s : State) (hc : ReqKind.ofCode c = none) :
    takeRequest ⟨c, tag, body⟩ s = s.replied c tag .unknownCode [] := by
  unfold takeRequest examine
  simp only [hc]
  simp [refuse, ordersReset, startReply, State.replied, State.withPort, Config.byteTime]

/-- A reply that orders no reset, to a request that left the port as the taking did. -/
theorem startReply_replied (f : Frame) (r : Reply) (s t : State) (hp : t.port = s.taking.port) (hc : t.clock = s.clock) :
    startReply f false r t = (t.withPort s.port).replied f.code f.tag r.status r.body := by
  simp [startReply, State.replied, State.withPort, hp, hc, State.taking, Config.byteTime]

/-- A request row is its frame handed to the port. -/
theorem exec_row (k : ReqKind) (tag : Byte) (body : List Byte) (s : State) :
    exec (k.row tag body) s = submit k.code tag body s := by
  cases k <;> rfl

/-- A row that carries a frame is that frame handed to the port. -/
theorem exec_frame (i : Instr) (f : Frame) (s : State) (h : i.frame? = some f) :
    exec i s = done (acceptFrame f s) := by
  cases i <;> simp only [Instr.frame?, Option.some.injEq, reduceCtorEq] at h <;> subst h <;> rfl

/-- What an idle port makes of a request of the right length: its effect `t` and its reply, where the request leaves
the port and orders no reset. -/
theorem submit_performed (k : ReqKind) (tag : Byte) (body : List Byte) (s t : State) (st : Status) (b : List Byte)
    (h : PortIdle s) (hb : body.length = k.bodyLength) (hk : k ≠ .resetExecute)
    (hp : perform k s.port.prepared body s.taking = (t, { status := st, body := b }))
    (ht : t.port = s.taking.port) (hc : t.clock = s.clock) :
    submit k.code tag body s = .next (settle ((t.withPort s.port).replied k.code tag st b)) := by
  have ho : ordersReset ⟨k.code, tag, body⟩ { status := st, body := b } = false := by
    cases k <;> first | rfl | exact absurd rfl hk
  unfold submit done
  rw [acceptFrame_idle _ _ h, takeRequest_defined k tag body s hb, hp, ho, startReply_replied _ _ s t ht hc]

/-- The conditions do not read the port. -/
@[simp] theorem condition_withPort (s : State) (p : Port) (i : FilteredId) :
    (s.withPort p).condition i = s.condition i := by
  cases i <;> rfl

@[simp] theorem condition_replied (s : State) (c tag : Byte) (st : Status) (b : List Byte) (i : FilteredId) :
    (s.replied c tag st b).condition i = s.condition i := by
  cases i <;> rfl

/-- What an idle port makes of a request of the right length, with its effect `u` written on the state itself. -/
theorem request_taken (k : ReqKind) (tag : Byte) (body : List Byte) (s u : State) (st : Status) (b : List Byte)
    (h : PortIdle s) (hb : body.length = k.bodyLength) (hk : k ≠ .resetExecute)
    (hp : perform k s.port.prepared body s.taking = (u.withPort s.taking.port, { status := st, body := b }))
    (hu : u.port = s.port) (hc : u.clock = s.clock) :
    submit k.code tag body s = .next (settle (u.replied k.code tag st b)) := by
  rw [submit_performed k tag body s (u.withPort s.taking.port) st b h hb hk hp rfl hc]
  show Host.Outcome.next (settle ((u.withPort s.port).replied k.code tag st b)) = _
  rw [← hu]
  rfl

/-- The same for an effect that leaves the monitor and every condition of a settled state as they were. -/
theorem request_quiet (k : ReqKind) (tag : Byte) (body : List Byte) (s u : State) (st : Status) (b : List Byte)
    (hs : Settled s) (h : PortIdle s) (hb : body.length = k.bodyLength) (hk : k ≠ .resetExecute)
    (hp : perform k s.port.prepared body s.taking = (u.withPort s.taking.port, { status := st, body := b }))
    (hu : u.port = s.port) (hc : u.clock = s.clock) (hm : u.mon = s.mon)
    (hcd : ∀ i, u.condition i = s.condition i) :
    submit k.code tag body s = .next (u.replied k.code tag st b) := by
  rw [request_taken k tag body s u st b h hb hk hp hu hc]
  congr 1
  exact settle_quiet s _ hs hm fun i => by rw [condition_replied, hcd]

/-- A reply alone leaves a settled state settled. -/
theorem settle_replied (s : State) (h : Settled s) (c tag : Byte) (st : Status) (b : List Byte) :
    settle (s.replied c tag st b) = s.replied c tag st b :=
  settle_quiet s _ h rfl (condition_replied s c tag st b)

end Sys2Proof.Machine
end

