-- ==== Sys2Proof/Laws/Step.lean ====
section
/-! SUPPORT. Every command and every step ends in a next state. -/

namespace Sys2Proof.Machine

/-- No command stops the part. -/
theorem exec_next (i : Instr) (s : State) : ∃ t, exec i s = .next t := by
  cases i <;> exact ⟨_, rfl⟩

/-- No step stops the part. -/
theorem step_next (s : State) : ∃ t, step s = .next t := by
  unfold step
  split
  · exact exec_next _ _
  · split
    · exact exec_next _ _
    · exact ⟨_, rfl⟩

end Sys2Proof.Machine
end

