-- ==== Sys2Proof/Tests/Slice0.lean ====
section
/-! SUPPORT. The checks of WellFormed on ill-formed commands; single steps of the worked examples of the spec; for every statement with hypotheses, concrete states and operands that meet them. -/

set_option synthInstance.maxSize 2000
set_option synthInstance.maxHeartbeats 400000
set_option Elab.async false

namespace Sys2Proof.Tests

open Sys2Proof.Machine

/-! ## Commands the outside cannot form -/

theorem test_wf_body_of_250_bytes : (Instr.clockRead 0#8 (zeros 250)).wf = true := by decide +kernel

theorem test_wf_refuses_a_body_of_251_bytes : (Instr.clockRead 0#8 (zeros 251)).wf = false := by decide +kernel

theorem test_wf_unassigned_code : (Instr.unassignedCode 0x06#8 0#8 []).wf = true := by decide +kernel

theorem test_wf_refuses_an_assigned_code_as_unassigned :
    (Instr.unassignedCode 0x01#8 0#8 []).wf = false := by decide +kernel

theorem test_wf_refuses_an_unassigned_code_with_251_bytes :
    (Instr.unassignedCode 0x06#8 0#8 (zeros 251)).wf = false := by decide +kernel

theorem test_no_word_spells_a_command : decodeTableWord 8 0xB5 = none := rfl

/-! ## Small states -/

/-- The state a command leaves. -/
def after (i : Instr) (s : State) : State :=
  match exec i s with
  | .next t => t
  | .fault _ => s
  | .refused _ => s

/-- The status and the body of the reply being sent. -/
def answer (s : State) : Option (Status × List Byte) := s.port.tx.map fun x => (x.reply.status, x.reply.body)

def rest : State := State.reset

def at_ (t : CellTime) (s : State) : State := { s with clock := t }

/-- A valid, unlocked record. -/
def recordOf (c m l : Nat) : CalRecord :=
  { circumference := c, mass := m, lines := l, valid := true, locked := false, serial := 1 }

/-- Four valid records. -/
def calibrated : State :=
  { rest with cal := { rest.cal with records :=
      { i0 := recordOf 2500000 820 10000, i1 := recordOf 2500000 820 10000, i2 := recordOf 2500000 820 10000,
        i3 := recordOf 2500000 835 10000 } } }

def withLink (l : Link) (s : State) : State := { s with links := s.links.set 0 l }

def withUnit (u : EncoderUnit) (s : State) : State := { s with units := s.units.set 0 u }

def withGroup (x : Group) (s : State) : State := { s with groups := s.groups.set 0 x }

def withWindow (w : Window) (s : State) : State := { s with windows := s.windows.set 0 w }

/-- A link in a state of the negotiation, with its timers at 1000. -/
def linkIn (st : LinkState) : Link :=
  { Link.reset with
    state := st, quietDue := if st = .quiet then some 1000 else none,
    offerDue := if st.settling then some 1000 else none, negotiationDue := if st.settling then some 1000 else none,
    recorded := if st = .acknowledge ∨ st = .confirm then some { content := ⟨6#4, true, 150#8, 37#8⟩, mark := false }
      else none }

/-- A link UP whose reply is awaited. -/
def linkUp : Link :=
  { Link.reset with
    state := .up, updateDue := some 1000, mode := some { cls := .p250, feedback := true }, ceiling := some 5000,
    ready := true, outstanding := some { seq := 0#4, demand := 0, judged := false } }

def enabled (n : Station) (s : State) : State :=
  { s with settings := s.settings.set n { s.settings.get n with linkEnable := true } }

def linked (l : Link) : State := enabled 0 (withLink l rest)

def windows : Tuning :=
  { kp := 100, kd := 10, correctionLimit := 1000, lockPosition := 100, lockSpeed := 10, tripPosition := 1000,
    tripSpeed := 100 }

def pair : GroupDef :=
  { kind := .linked, members := [{ station := 0, share := 600 }, { station := 1, share := 400 }], period := 250,
    tuning := windows, ramp := 0, engageTimeout := 100 }

def slip : OpenSlip := { seq := 0#16, start := 0, peakPosition := 200, peakSpeed := 0, tag := none }

/-- The group G0 of S0 and S1 in a state. -/
def groupIn (st : GroupState) : Group :=
  { Group.reset with
    state := st, defn := some pair, offsets := some [0, 0], periodDue := if st.running then some 1000 else none,
    engageDue := if st = .engaging then some 1000 else none, engagedAt := some 0,
    openSlip := if st = .slipping then some slip else none }

/-- The cell with its group in a state, both members' links UP and permitted. -/
def cell (st : GroupState) : State :=
  enabled 0 (enabled 1 (withGroup (groupIn st)
    { calibrated with
      links := { calibrated.links with i0 := linkUp, i1 := linkUp },
      permit := { mask := 3#4, time := 100, due := some 1000 } }))

/-- TRIP_OUT asserted by ESTOP, the line released, and the group TRIPPED. -/
def tripped : State :=
  let s := withGroup (groupIn .tripped) calibrated
  { s with mon := { s.mon with estop := true, tripOut := true } }

/-! ## Single steps of the worked examples -/

/-- Section 1.4: a count of 2,500,000 µm and divisor 40,000 adds 62 µm and leaves 20,000. -/
theorem test_travel_of_one_count :
    ((after (.encoderTransition 2 true false 0) calibrated).units.get 2).travel = 62
      ∧ ((after (.encoderTransition 2 true false 0) calibrated).units.get 2).remainder = 20000 := by decide +kernel

/-- R8 with the direction inverted: the remainder stays in 0..D − 1. -/
theorem test_travel_of_one_count_back :
    ((after (.encoderTransition 2 false true 0) calibrated).units.get 2).travel = -63
      ∧ ((after (.encoderTransition 2 false true 0) calibrated).units.get 2).remainder = 20000 := by decide +kernel

/-- Section 1.4: the two speed estimates. -/
theorem test_speed_estimates :
    speedEstimate 2500000 40000 true ⟨39696, 1000⟩ ⟨47944, 1040⟩ = 9699
      ∧ speedEstimate 2500000 40000 true ⟨118400016, 412301⟩ ⟨118412800, 412302⟩ = 156 := by decide +kernel

/-- R11: both lines change. -/
theorem test_illegal_transition :
    ((after (.encoderTransition 0 true true 0) rest).units.get 0).illegalCount = 1
      ∧ ((after (.encoderTransition 0 true true 0) rest).mon.flags.encoder.get 0).state = .pending := by decide +kernel

/-- R26: the quiet time. -/
theorem test_link_enable_starts_the_quiet_timer :
    ((after (.linkEnable 0#8 [1#8, 1#8]) (at_ 10000 rest)).links.get 1).quietDue = some 160000 := by decide +kernel

/-- R29, R30: the sixth confirmation resolves P500 and the lower ceiling. -/
theorem test_sixth_confirmation :
    let l := (after (.offerTimerExpiry 0) (at_ 1000 (linked { linkIn .confirm with confirmCount := 5 }))).links.get 0
    l.state = .up ∧ l.mode = some { cls := .p500, feedback := true } ∧ l.ceiling = some 5000
      ∧ l.updateDue = some 1500 := by decide +kernel

/-- R36, R38, R76: the third missing reply loses the link and holds the group. -/
theorem test_third_missing_reply_holds_the_group :
    let s := cell .locked
    let t := after (.dlkFrameReceived 0 .badCheck) { s with links := s.links.set 0 { linkUp with missingRun := 2 } }
    (t.links.get 0).state = .quiet ∧ (t.groups.get 0).state = .held ∧ (t.links.get 0).checkErrors = 1 := by
  decide +kernel

/-- R46, R49: the write takes 40 ms. -/
theorem test_calibration_write :
    let s := after (.calWrite 0#8 (calWriteForm 3 ⟨2512000, 835, 10000⟩)) rest
    s.cal.op.map (·.due) = some 40000
      ∧ ((after .calWriteCompletion (at_ 40000 s)).cal.records.get 3).serial = 1
      ∧ (after .calWriteCompletion (at_ 39999 s)).cal = s.cal := by decide +kernel

/-- R54. -/
theorem test_capability_table :
    answer (after (.capabilityRead 0#8 [7#8, 3#8]) rest) = some (.ok, [32#8, 0x0F#8, 250#8]) := by decide +kernel

/-- R66: shares that do not sum to 1000. -/
theorem test_group_define_checks_the_shares :
    answer (after (.groupDefine 0#8 (groupDefineForm 0 { pair with members := [⟨0, 600⟩, ⟨1, 401⟩] })) rest)
      = some (.badValue, []) := by decide +kernel

/-- R71: an accepted ENGAGE. -/
theorem test_engage :
    let t := after (.engage 0#8 (groupForm 0)) (at_ 500 (cell .free))
    (t.groups.get 0).state = .engaging ∧ (t.groups.get 0).periodDue = some 750
      ∧ (t.groups.get 0).engageDue = some 100500 ∧ t.mon.alerts.calUnlocked = true := by decide +kernel

/-- R102, R164: a sync error outside the lock window opens an excursion. -/
theorem test_locked_group_slips :
    let s := cell .locked
    let t := after (.periodTimerExpiry 0)
      (at_ 1000 { s with units := s.units.set 1 { s.units.get 1 with travel := -101 } })
    (t.groups.get 0).state = .slipping ∧ t.exc.counter = 1#16
      ∧ (t.groups.get 0).openSlip.map (·.peakPosition) = some 101 ∧ t.posted.get 1 = 10 := by decide +kernel

/-- R112, R116: a start that has passed activates inside the request. -/
theorem test_late_segment_activates_at_once :
    let x : Segment := { group := 0, basis := .absolute, start := 400, duration := some 2, ramp := 0, tag := 7,
                         coeffs := ⟨0, 0, 0, 450, 0⟩, arrival := 0 }
    let t := after (.segmentQueue 0#8 (segmentForm x false false)) (at_ 500 (cell .free))
    (t.scheds.get 0).state = .active ∧ (t.scheds.get 0).endsAt = some 2500 ∧ (t.scheds.get 0).late = 1
      ∧ answer t = some (.ok, [0#8, 0#8, 0#8, 0#8, 2#8, 0#8]) := by decide +kernel

/-- Section 7.9: a grant without a permit time. -/
theorem test_grant_needs_a_permit_time :
    answer (after (.permitGrant 0#8 (maskForm 5#4)) rest) = some (.state, []) := by decide +kernel

/-- R136, R134: the permits run out. -/
theorem test_permits_run_out :
    let t := after .permitTimerExpiry (at_ 1000 (cell .locked))
    t.permit.mask = 0#4 ∧ (t.groups.get 0).state = .held ∧ t.mon.alerts.permitExpired = true := by decide +kernel

/-- R150, R156: ESTOP asserts TRIP_OUT in the event that latches it. -/
theorem test_estop_trips :
    let t := after (.estopInChange true) (cell .locked)
    t.mon.tripOut = true ∧ t.mon.tripCount = 1 ∧ (t.groups.get 0).state = .tripped ∧ t.permit.mask = 0#4
      ∧ t.exc.log.map (·.kind) = [.trip] ∧ (t.rings.get 0).frozen = true := by decide +kernel

/-- R177: the read sequence that wraps within its aligned block. -/
theorem test_ring_wrap :
    (List.range 8).map (RingQuery.slot { group := 0, start := 27, length := 16, wrap := true, page := 0 })
      = [27, 28, 29, 30, 31, 16, 17, 18] := by decide +kernel

/-- R180: the gap timer stands at the sync byte and starts with LEN. -/
theorem test_gap_timer_starts_with_the_length :
    let s := after (.mpByteReceived 0xB5#8 false) (at_ 10 rest)
    s.port.rx = .assembling [] ∧ s.port.gapDue = none
      ∧ (after (.mpByteReceived 0#8 false) (at_ 9000 s)).port.gapDue = some 11000 := by decide +kernel

/-- R181. -/
theorem test_crc_check_value :
    crc16 [0x31#8, 0x32#8, 0x33#8, 0x34#8, 0x35#8, 0x36#8, 0x37#8, 0x38#8, 0x39#8] = 0x29B1#16 := by decide +kernel

/-- R186: the length is tested before the values. -/
theorem test_bad_length : answer (after (.engage 0#8 [9#8]) rest) = some (.badLength, []) := by decide +kernel

/-- R183: the reply of six body bytes takes 65 µs. -/
theorem test_reply_time : (after (.clockRead 9#8 []) (at_ 1000 rest)).port.tx.map (·.due) = some 1065 := by
  decide +kernel

/-- R192: the port reset takes effect when its reply has been sent. -/
theorem test_port_reset :
    let s := after (.resetExecute 0#8 []) { rest with port := { rest.port with prepared := true } }
    (after .replySent (at_ 35 s)).mon.alerts.restart = true
      ∧ (after .replySent (at_ 34 s)).port.tx.isSome = true := by decide +kernel

/-! ## The hypotheses of every statement are met -/

theorem witness_StepTakesTheFrontCommand :
    ({ rest with pending := [.clockRead 0#8 []] } : State).pending = .clockRead 0#8 [] :: [] := rfl

theorem witness_EmptyQueueTicksOrTakesADueEvent :
    rest.pending = [] ∧ dueEvents rest = []
      ∧ dueEvents (at_ 250 (withUnit { EncoderUnit.reset false false with estimateDue := 500 } rest))
        = [.estimationIntervalExpiry 1, .estimationIntervalExpiry 2, .estimationIntervalExpiry 3]
      ∧ dueEvents { rest with permit := { mask := 1#4, time := 100, due := some 0 } } = [.permitTimerExpiry]
      ∧ Settled rest ∧ Instr.gapTimerExpiry.timed = true ∧ ¬ DueIn rest .gapTimerExpiry :=
  ⟨rfl, by decide +kernel, by decide +kernel, by decide +kernel, by decide +kernel, rfl, fun ⟨_, h, _⟩ => nomatch h⟩

theorem witness_StepKeepsSettled : Settled (cell .locked) ∧ ∃ t, step (cell .locked) = .next t :=
  ⟨by decide +kernel, step_next _⟩

theorem witness_StepKeepsTripQuiet :
    TripQuiet tripped ∧ tripped.mon.tripOut = true ∧ ∃ t, step tripped = .next t ∧ t.mon.tripOut = true :=
  ⟨by decide +kernel, rfl, _, rfl, by decide +kernel⟩

theorem witness_StepKeepsCapacityAndOrder :
    WithinCapacity (cell .locked) ∧ QueueOrdered (cell .locked) ∧ ∃ t, step (cell .locked) = .next t :=
  ⟨by decide +kernel, by decide +kernel, step_next _⟩

theorem witness_StepKeepsGroups :
    MembersApart (cell .slipping) ∧ GroupTimed (cell .slipping) ∧ ∃ t, step (cell .slipping) = .next t :=
  ⟨by decide +kernel, by decide +kernel, step_next _⟩

theorem witness_StepKeepsLinkTimed : LinkTimed (linked linkUp) ∧ ∃ t, step (linked linkUp) = .next t :=
  ⟨by decide +kernel, step_next _⟩

theorem witness_StepKeepsDriving :
    MembersApart (cell .locked) ∧ GroupTimed (cell .locked) ∧ LinkTimed (cell .locked) ∧ DrivingReady (cell .locked)
      ∧ PostedWhileDriving { cell .locked with posted := { i0 := 5, i1 := -5, i2 := 0, i3 := 0 } }
      ∧ ∃ t, step (cell .locked) = .next t :=
  ⟨by decide +kernel, by decide +kernel, by decide +kernel, by decide +kernel, by decide +kernel, step_next _⟩

theorem witness_StepKeepsScheduleSound : ScheduleSound (cell .free) ∧ ∃ t, step (cell .free) = .next t :=
  ⟨by decide +kernel, step_next _⟩

/-- The store with a locked record of S0. -/
def lockedStore : State :=
  { calibrated with cal := { calibrated.cal with
      records := calibrated.cal.records.set 0 { recordOf 2500000 820 10000 with locked := true } } }

theorem witness_StepKeepsStore :
    StoreSound lockedStore ∧ (lockedStore.cal.records.get 0).locked = true ∧ ∃ t, step lockedStore = .next t :=
  ⟨by decide +kernel, rfl, step_next _⟩

theorem witness_StepKeepsUnitSound :
    StoreSound calibrated ∧ UnitSound calibrated ∧ ∃ t, step calibrated = .next t :=
  ⟨by decide +kernel, by decide +kernel, step_next _⟩

theorem witness_StepKeepsPermitAndPort :
    PermitTimed (cell .locked) ∧ PortSound (cell .locked) ∧ ∃ t, step (cell .locked) = .next t :=
  ⟨by decide +kernel, by decide +kernel, step_next _⟩

theorem witness_StepKeepsFiltersSound : FiltersSound (cell .locked) ∧ ∃ t, step (cell .locked) = .next t :=
  ⟨by decide +kernel, step_next _⟩

/-- ESTOP set afresh, TRIP_OUT still deasserted. -/
def estopSet : State := { rest with mon := { rest.mon with estop := true } }

theorem witness_EndOfEveryEvent :
    ((handConditions estopSet).mon.tripSet = true ∧ estopSet.mon.tripOut = false)
      ∧ ¬ ((handConditions rest).mon.tripSet = true ∧ rest.mon.tripOut = false)
      ∧ (MembersApart (cell .locked) ∧ ((cell .locked).links.get 0).state = .up)
      ∧ (MembersApart (linked (linkIn .noMatch)) ∧ ((linked (linkIn .noMatch)).links.get 0).state = .noMatch)
      ∧ (let s := withLink (linkIn .quiet) (cell .held)
        MembersApart s ∧ (s.links.get 0).state ≠ .up ∧ (s.groups.get 0).state.running = true
          ∧ (s.groups.get 0).hasMember 0 = true) := by decide +kernel

theorem witness_TripEventReachesEveryBlock :
    ((cell .free).groups.get 0).state.running = false
      ∧ (((cell .held).groups.get 0).state = .held ∧ ((cell .held).groups.get 0).openSlip = none)
      ∧ (((cell .slipping).groups.get 0).state = .slipping ∧ ((cell .slipping).groups.get 0).openSlip = some slip)
      ∧ (((cell .locked).groups.get 0).state = .locked ∧ ((cell .locked).groups.get 0).openSlip = none)
      ∧ (((cell .engaging).groups.get 0).state = .engaging ∧ ((cell .engaging).groups.get 0).openSlip = none) := by
  decide +kernel

theorem witness_HeldClaims :
    ((cell .held).groups.get 0).state.driving = false
      ∧ (((cell .locked).groups.get 0).state.driving = true ∧ ((cell .locked).groups.get 0).openSlip = none)
      ∧ (((cell .slipping).groups.get 0).state.driving = true ∧ ((cell .slipping).groups.get 0).openSlip = some slip)
      ∧ (MembersApart (cell .locked) ∧ ((cell .locked).groups.get 0).state ≠ .undefined
        ∧ ((cell .locked).groups.get 0).hasMember 1 = true)
      ∧ (cell .locked).memberOf 2 (· != .undefined) = false := by decide +kernel

/-- A closed record of 2 ms with an outcome. -/
def closed (oc : ExcOutcome) : ExcRecord := slip.closed 0 2000 oc

theorem witness_ExcursionsAndFirstCauses :
    rest.exc.log.length < 32 ∧ 32 ≤ (List.replicate 32 (closed .held)).length
      ∧ Window.reset.state ≠ .openValid
      ∧ 1 * 1000 < (closed .recovered).stop - (closed .recovered).start
      ∧ ¬ 2 * 1000 < (closed .held).stop - (closed .held).start
      ∧ ({ Window.reset with state := .openValid, limit := 2 } : Window).state = .openValid := by decide +kernel

/-- The hypotheses of the statements about requests. -/
theorem witness_Settled_and_PortIdle :
    Settled rest ∧ PortIdle rest ∧ Settled (cell .locked) ∧ PortIdle (cell .locked) := by decide +kernel

/-- A MARK segment in the unresolved list. -/
def waiting (start : Nat) : State :=
  { cell .free with
    mark := { MarkCapture.reset with armed := true },
    road := { resolved := [], nextArrival := 1, unresolved := [
      { group := 0, basis := .mark, start := start, duration := none, coeffs := ⟨0, 0, 0, 450, 0⟩, ramp := 0, tag := 0,
        arrival := 0 }] } }

theorem witness_MarkEdgeIsCountedAndResolves :
    (Settled rest ∧ rest.mark.armed = false)
      ∧ (Settled (waiting 1) ∧ (waiting 1).mark.armed = true ∧ QueueOrdered (waiting 1)
        ∧ ∀ y ∈ (waiting 1).road.unresolved, y.start ≠ 0)
      ∧ (Settled (waiting 0) ∧ QueueOrdered (waiting 0) ∧ ∃ y ∈ (waiting 0).road.unresolved, y.start = 0) := by
  decide +kernel

theorem witness_ValidTransition :
    StoreSound calibrated ∧ UnitSound calibrated ∧ StoreSound rest ∧ UnitSound rest
      ∧ (true = (calibrated.units.get 0).lineA ↔ false ≠ (calibrated.units.get 0).lineB)
      ∧ tableCount 4 (false, false) (true, false) ≠ 0 ∧ tableCount 1 (true, false) (true, true) = 0
      ∧ (rest.cal.records.get 0).valid = false ∧ (calibrated.cal.records.get 0).valid = true
      ∧ (calibrated.units.get 0).travel.natAbs ≤ 9000000000000000000
      ∧ (9000000000000000000 : Int).natAbs ≤ 9000000000000000000 := by decide +kernel

theorem witness_IllegalTransitionAndEqualSample :
    (true ≠ (rest.units.get 0).lineA ∧ true ≠ (rest.units.get 0).lineB)
      ∧ (false = (rest.units.get 0).lineA ∧ false = (rest.units.get 0).lineB ∧ Settled rest) := by decide +kernel

/-- A station that checks its index, armed with a last index capture. -/
def indexed (count last : BitVec 32) : State :=
  { withUnit { EncoderUnit.reset false false with count := count, lastIndex := some last, indexArmed := true } calibrated with
    settings := calibrated.settings.set 0 { calibrated.settings.get 0 with checkIndex := true } }

theorem witness_IndexEventCapturesAndChecks :
    ((rest.settings.get 0).checkIndex = false ∧ (rest.cal.records.get 0).valid = false)
      ∧ (((indexed 0#32 0#32).settings.get 0).checkIndex = true ∧ ((indexed 0#32 0#32).cal.records.get 0).valid = true
        ∧ ((indexed 0#32 0#32).units.get 0).indexArmed = true
        ∧ ((indexed 0#32 0#32).units.get 0).lastIndex = some 0#32)
      ∧ (EncoderUnit.reset false false).indexArmed = false
      ∧ (((40004#32 - 0#32).toInt - 40000).natAbs ≤ 4)
      ∧ ¬ (((40005#32 - 0#32).toInt - 40000).natAbs ≤ 4 ∨ ((40005#32 - 0#32).toInt + 40000).natAbs ≤ 4
        ∨ (40005#32 - 0#32).toInt.natAbs ≤ 4) := by decide +kernel

theorem witness_EstimationInterval :
    (((at_ 250 rest).units.get 0).estimateDue ≤ (at_ 250 rest).clock)
      ∧ ((EncoderUnit.reset false false).windowStart = none ∧ (EncoderUnit.reset false false).crawl = true)
      ∧ (({ EncoderUnit.reset false false with crawl := false } : EncoderUnit).windowStart = none)
      ∧ ((⟨0, 0#32⟩ : Edge).fine < (⟨1, 1#32⟩ : Edge).fine)
      ∧ ((∀ e ∈ (some (⟨7, 0#32⟩ : Edge)).toList, e.fine ≤ 7)
        ∧ 7 + 64000 * 32 ≤ 32 * 64001 ∧ 32 * 64000 < 7 + 64000 * 32) := by decide +kernel

theorem witness_FramesOutsideUp :
    (Settled rest ∧ (rest.links.get 0).state = .off)
      ∧ (Settled (linked (linkIn .offer)) ∧ (linkIn .offer).state.settling = true)
      ∧ ((linkIn .offer).state = .offer ∧ (if (2 : Nat) ≠ 0 then 2 + 1 else 1) = 3 ∧ (0 + 1 : Nat) ≠ 3 ∧ 2 + 1 = 3)
      ∧ ((rest.settings.get 0).classes.getLsbD 2 = true ∧ (3#4).getLsbD 2 = false)
      ∧ ((linkIn .acknowledge).state = .acknowledge
        ∧ (linkIn .acknowledge).recorded = some { content := ⟨6#4, true, 150#8, 37#8⟩, mark := false })
      ∧ ((linkIn .confirm).state = .confirm
        ∧ (linkIn .confirm).recorded = some { content := ⟨6#4, true, 150#8, 37#8⟩, mark := false }) := by decide +kernel

theorem witness_NegotiationTimers :
    let quiet := at_ 1000 (linked (linkIn .quiet))
    let offer := at_ 1000 (linked (linkIn .offer))
    let acknowledge := at_ 1000 (linked (linkIn .acknowledge))
    let confirm (n : Nat) := at_ 1000 (linked { linkIn .confirm with confirmCount := n })
    (LinkTimed quiet ∧ (quiet.links.get 0).state = .quiet ∧ Reached quiet (quiet.links.get 0).quietDue)
      ∧ (LinkTimed offer ∧ (offer.links.get 0).state = .offer ∧ Reached offer (offer.links.get 0).offerDue
        ∧ (offer.links.get 0).state.settling = true ∧ Reached offer (offer.links.get 0).negotiationDue)
      ∧ (LinkTimed acknowledge ∧ Reached acknowledge (acknowledge.links.get 0).offerDue)
      ∧ (LinkTimed (confirm 4) ∧ Reached (confirm 4) ((confirm 4).links.get 0).offerDue ∧ 4 + 1 ≠ 6)
      ∧ (LinkTimed (confirm 5) ∧ ((confirm 5).links.get 0).confirmCount + 1 = 6
        ∧ ((confirm 5).links.get 0).recorded = some { content := ⟨6#4, true, 150#8, 37#8⟩, mark := false })
      ∧ (8#4 &&& 6#4 = 0#4)
      ∧ ((15#4 &&& 6#4).getLsbD LinkClass.p500.bit = true
        ∧ ∀ b, b < LinkClass.p500.bit → (15#4 &&& 6#4).getLsbD b = false) := by decide +kernel

theorem witness_RepliesInUp :
    (((linked linkUp).links.get 0).state = .up
        ∧ ((linked linkUp).links.get 0).outstanding = some { seq := 0#4, demand := 0, judged := false })
      ∧ (let s := linked { linkUp with outstanding := none }
        (s.links.get 0).state = .up ∧ (∀ o ∈ (s.links.get 0).outstanding.toList, o.judged = true) ∧ Settled s)
      ∧ (let s := linked { linkUp with outstanding := some { seq := 0#4, demand := 0, judged := true } }
        (s.links.get 0).state = .up ∧ (∀ o ∈ (s.links.get 0).outstanding.toList, o.judged = true) ∧ Settled s)
      ∧ (∀ ready : Bool,
        let f : StatusFrame := { force := 0#32, driveSpeed := 0#32, ready := ready, fault := false, echo := 0#4 }
        f.echo = 0#4 ∧ f.ready = ready)
      ∧ ({ force := 0#32, driveSpeed := 0#32, ready := true, fault := false, echo := 1#4 } : StatusFrame).echo ≠ 0#4 := by
  decide +kernel

theorem witness_UpdateExpirySendsTheGatedDemand :
    let s := at_ 1000 (linked linkUp)
    ((s.links.get 0).state = .up ∧ (s.links.get 0).mode = some { cls := .p250, feedback := true }
        ∧ Reached s (s.links.get 0).updateDue)
      ∧ ((s.links.get 0).outstanding = some { seq := 0#4, demand := 0, judged := false }
        ∧ (s.links.get 0).missingRun + 1 ≠ 3)
      ∧ (({ linkUp with missingRun := 2 } : Link).missingRun + 1 = 3)
      ∧ (∀ o ∈ ({ linkUp with outstanding := none } : Link).outstanding.toList, o.judged = true) := by decide +kernel

theorem witness_LinkEnableAndRestart :
    (PortIdle rest ∧ LinkTimed rest ∧ (rest.links.get 0).state = .off)
      ∧ (PortIdle (linked linkUp) ∧ LinkTimed (linked linkUp) ∧ ((linked linkUp).links.get 0).state = .up)
      ∧ (LinkTimed (linked (linkIn .quiet)) ∧ ((linked (linkIn .quiet)).links.get 0).state ≠ .off
        ∧ ((linked (linkIn .quiet)).links.get 0).state ≠ .up) := by decide +kernel

/-- An operation in flight on S0. -/
def busy (k : CalOpKind) : State :=
  { calibrated with clock := 40000, cal := { calibrated.cal with
      op := some { kind := k, station := 0, acceptedAt := 0, due := 40000 } } }

theorem witness_CalibrationOperations :
    (Settled rest ∧ PortIdle rest ∧ MembersApart rest)
      ∧ (⟨1000000, 50, 256⟩ : CalConstants).InRange ∧ (⟨6000000, 3000, 65535⟩ : CalConstants).InRange
      ∧ ((busy .lock).cal.op = some { kind := .lock, station := 0, acceptedAt := 0, due := 40000 }
        ∧ 40000 ≤ (busy .lock).clock)
      ∧ ((busy (.write ⟨1000000, 50, 256⟩)).cal.op
          = some { kind := .write ⟨1000000, 50, 256⟩, station := 0, acceptedAt := 0, due := 40000 }) := by decide +kernel

theorem witness_CapabilityTable :
    (0 ≤ 9 ∧ 1 ≤ 10 ∧ 10 ≤ 10 ∧ 0 + 10 ≤ 10) ∧ (9 ≤ 9 ∧ 1 ≤ 1 ∧ 9 + 1 ≤ 10)
      ∧ (10 < 256 ∧ 9 < 10) ∧ (10 < 9 + 2) ∧ ([0#8] : List Byte).length ≠ 2 := by decide

theorem witness_StationSet :
    (PortIdle rest ∧ Settings.reset.InRange ∧ rest.memberOf 0 (· != .undefined) = false)
      ∧ ({ Settings.reset with
          decode := 1, tolerance := 15, overspeedLimit := 75000, forceLimit := 100, mismatchLimit := 50,
          classes := 8#4 } : Settings).InRange
      ∧ (cell .free).memberOf 0 (· != .undefined) = true
      ∧ ((linkIn .acknowledge).state = .acknowledge ∧ Settings.reset.forceLimit / 100 ≠ 4900 / 100)
      ∧ ¬ ((Link.reset.state = .acknowledge ∨ Link.reset.state = .confirm)
        ∧ (Settings.reset.classes ≠ 8#4 ∨ Settings.reset.forceLimit / 100 ≠ 100 / 100)) := by decide +kernel

theorem witness_GroupDefineTuneRead :
    (PortIdle rest ∧ pair.InRange ∧ windows.InRange)
      ∧ (PortIdle (cell .locked) ∧ ((cell .locked).groups.get 0).state ≠ .undefined
        ∧ ((cell .locked).groups.get 0).state ≠ .free ∧ ((cell .locked).groups.get 0).defn = some pair)
      ∧ (∃ m ∈ pair.members, ∃ h ∈ allFour, h ≠ 1 ∧ ((cell .free).groups.get h).state ≠ .undefined
        ∧ ((cell .free).groups.get h).hasMember m.station = true)
      ∧ ((rest.groups.get 0).state = .undefined
        ∧ ¬ ∃ m ∈ pair.members, ∃ h ∈ allFour, h ≠ 0 ∧ (rest.groups.get h).state ≠ .undefined
          ∧ (rest.groups.get h).hasMember m.station = true) := by decide +kernel

theorem witness_EngageAndItsTimeout :
    (PortIdle rest ∧ (rest.groups.get 0).state ≠ .free ∧ (rest.groups.get 0).state ≠ .held)
      ∧ (PortIdle (cell .free) ∧ ((cell .free).groups.get 0).state = .free
        ∧ ((cell .free).groups.get 0).defn = some pair)
      ∧ ((cell .held).groups.get 0).state = .held
      ∧ (((cell .engaging).groups.get 0).state = .engaging ∧ ((cell .engaging).groups.get 0).engagedAt = some 0
        ∧ Reached (at_ 1000 (cell .engaging)) ((cell .engaging).groups.get 0).engageDue) := by decide +kernel

theorem witness_ReleaseAndDisband :
    (PortIdle rest ∧ (rest.groups.get 0).state = .undefined)
      ∧ ((tripped.groups.get 0).state = .tripped ∧ tripped.mon.tripOut = true)
      ∧ (((withGroup (groupIn .tripped) calibrated).groups.get 0).state = .tripped
        ∧ (withGroup (groupIn .tripped) calibrated).mon.tripOut = false)
      ∧ (((cell .held).groups.get 0).state.running = true ∧ ((cell .held).groups.get 0).openSlip = none)
      ∧ (((cell .slipping).groups.get 0).state.running = true ∧ ((cell .slipping).groups.get 0).openSlip = some slip)
      ∧ (((cell .locked).groups.get 0).state ≠ .free ∧ ((cell .free).groups.get 0).state = .free) := by decide +kernel

theorem witness_ReferenceErrorsAndSyncError :
    pair.members.length = [(0 : Int), 0].length
      ∧ [(⟨0, 600, 0, 0, 820, 5000⟩ : Reading)] ≠ [] := by decide

theorem witness_AveragedCorrectionsSumToZero :
    2 ≤ [(⟨0, 0⟩ : Errors), ⟨0, 0⟩].length ∧ (5 : Nat) ≤ windows.correctionLimit ∧ windows.correctionLimit < 1001 := by
  decide

theorem witness_RoadLoadForceIsTheRoundedSum : 0 < pair.period ∧ 0 < (1, 1).2 := by decide

theorem witness_RoadSharesSumToTheForce : ([600] : List Nat).sum + 400 = 1000 ∧ (0 : Int) = 0 := by decide

theorem witness_DemandsStayWithinTheirCeilings :
    [(1 : Int)].length = [(2 : Int)].length ∧ [(2 : Int)].length = [5000].length := by decide

/-- A period is due in a state of the group; the second member's travel is `away`, the count of confirmations `count`. -/
def dueIn (st : GroupState) (away : Int) (count : Nat) : State :=
  let s := at_ 1000 (withGroup { groupIn st with confirm := count } (cell st))
  { s with units := s.units.set 1 { s.units.get 1 with travel := away } }

theorem witness_ControlPeriod :
    let b (s : State) := periodBase pair.kind (readings s pair.members [0, 0])
    (∀ x ∈ [dueIn .engaging 0 0, dueIn .engaging 0 7, dueIn .engaging 101 7, dueIn .locked 100 0, dueIn .locked 101 0,
          dueIn .slipping 75 0, dueIn .slipping 76 0, dueIn .held 0 0],
        (x.groups.get 0).defn = some pair ∧ (x.groups.get 0).offsets = some [0, 0]
          ∧ Reached x (x.groups.get 0).periodDue ∧ (b x).maxSpd = 0)
      ∧ (((dueIn .engaging 0 7).groups.get 0).state = .engaging ∧ pair.ramp = 0
        ∧ (b (dueIn .engaging 0 7)).maxPos ≤ windows.lockPosition
        ∧ ((dueIn .engaging 0 7).groups.get 0).confirm + 1 = 8
        ∧ ((dueIn .engaging 0 0).groups.get 0).confirm + 1 ≠ 8
        ∧ windows.lockPosition < (b (dueIn .engaging 101 7)).maxPos)
      ∧ (((dueIn .locked 100 0).groups.get 0).state = .locked
        ∧ (b (dueIn .locked 100 0)).maxPos ≤ windows.lockPosition
        ∧ windows.lockPosition < (b (dueIn .locked 101 0)).maxPos)
      ∧ (((dueIn .slipping 75 0).groups.get 0).state = .slipping
        ∧ ((dueIn .slipping 75 0).groups.get 0).openSlip = some slip
        ∧ 4 * (b (dueIn .slipping 75 0)).maxPos ≤ 3 * windows.lockPosition
        ∧ 3 * windows.lockPosition < 4 * (b (dueIn .slipping 76 0)).maxPos)
      ∧ ((dueIn .held 0 0).groups.get 0).state = .held := by decide +kernel

/-- A segment of G0. -/
def segment (basis : Basis) (start : Nat) : Segment :=
  { group := 0, basis := basis, start := start, duration := some 1, coeffs := ⟨0, -50000, 100000, 450, 0⟩, ramp := 0,
    tag := 65535, arrival := 0 }

theorem witness_SegmentQueue :
    (Settled (cell .free) ∧ PortIdle (cell .free) ∧ QueueOrdered (cell .free))
      ∧ (segment .absolute (2 ^ 48 - 1)).InRange ∧ (segment .mark (2 ^ 32 - 1)).InRange
      ∧ ((segment .mark 0).coeffs.grade = 0 ∧ (segment .mark 0).ramp = 0)
      ∧ (rest.groups.get (segment .mark 0).group).state = .undefined
      ∧ ((cell .free).groups.get (segment .mark 0).group).state ≠ .undefined
      ∧ (cell .free).road.resolved.length + (cell .free).road.unresolved.length < 24
      ∧ ((cell .free).mark.valid = false ∧ (cell .free).clock < 1 ∧ 0 ≤ (cell .free).clock)
      ∧ (({ MarkCapture.reset with valid := true, time := some 0 } : MarkCapture).time = some 0)
      ∧ 24 ≤ (List.replicate 24 (segment .mark 0)).length := by decide +kernel

theorem witness_SegmentRemovalAndScheduleRead :
    Settled (waiting 1) ∧ PortIdle (waiting 1) ∧ 65535 < 65536 := by decide +kernel

/-- The schedule of G0 in ACTIVE with a blend of two steps. -/
def blending (elapsed : Nat) : State :=
  { cell .free with
    clock := 2000,
    scheds := (cell .free).scheds.set 0
      { Schedule.reset with
        state := .active, active := some (segment .absolute 0), activatedAt := some 0, endsAt := some 1000,
        applied := some ⟨0, 0, 0, 450, 0⟩,
        blend := some { source := ⟨0, 0, 0, 450, 0⟩, target := ⟨0, 0, 0, 650, 0⟩, ramp := 2, elapsed := elapsed } },
    road := { resolved := [{ seg := segment .absolute 0, due := 2000 }], unresolved := [], nextArrival := 1 } }

theorem witness_ScheduleEvents :
    ((∃ x ∈ (blending 0).road.resolved.head?.toList, x.due ≤ (blending 0).clock) ∧ Settled (blending 0))
      ∧ (((blending 0).scheds.get 0).activatedAt = some 0 ∧ 0 + (0 + 1) * 1000 ≤ (blending 0).clock ∧ 0 + 1 < 2)
      ∧ (((blending 1).scheds.get 0).blend.map (·.elapsed) = some 1 ∧ Settled (blending 1) ∧ 2 ≤ 1 + 1)
      ∧ (((blending 0).scheds.get 0).state = .active ∧ Reached (blending 0) ((blending 0).scheds.get 0).endsAt) := by
  decide +kernel

theorem witness_TorquePermits :
    (PortIdle rest ∧ 100 ≤ 60000 ∧ (100 : Nat) ≤ 100)
      ∧ Reached (at_ 1000 (cell .locked)) (at_ 1000 (cell .locked)).permit.due := by decide +kernel

/-- The TRIP_IN flag PENDING. -/
def tripInPending : State :=
  { rest with clock := 5000, mon := { rest.mon with
      tripIn := true, flags := { rest.mon.flags with tripIn := { state := .pending, due := some 5000, level := true } } } }

theorem witness_FilterExpirySafetyInputsAndForcedFlags :
    (((tripInPending.mon.flags.get .tripIn).state = .pending
        ∧ Reached tripInPending (tripInPending.mon.flags.get .tripIn).due)
      ∧ rest.mon.estopIn = false ∧ PortIdle rest) := by decide +kernel

theorem witness_FilterSetAndSourceEnable :
    PortIdle rest ∧ 30000 ≤ 30000
      ∧ (FilteredId.tripIn.kind = .tripIn ∧ tripInPending.mon.enabled.get .tripIn = true
        ∧ tripInPending.mon.times.get .tripIn ≠ 0 ∧ (tripInPending.mon.flags.get .tripIn).state = .pending) := by
  decide +kernel

theorem witness_FlagsClearMaskAndRead :
    PortIdle rest ∧ (0x3FFFFFFFF#34).getLsbD (flagNumber .tripIn) = true ∧ (0x3FFFFFFFF#34).getLsbD 33 = true
      ∧ (0#34).getLsbD 33 = false ∧ (0x3FFFFFFFF#34).getLsbD 21 = true ∧ (0x3FFFFFFFF#34).getLsbD 22 = true
      ∧ (0x3FFFFFFFF#34).getLsbD 32 = true ∧ (0x3FFFFFFFF#34).getLsbD 23 = true := by decide +kernel

theorem witness_LogFetchAndWindows :
    (Settled rest ∧ PortIdle rest ∧ 8 ≤ 8 ∧ 10000 ≤ 10000 ∧ (rest.groups.get 0).state = .undefined
        ∧ (rest.windows.get 0).state = .closed)
      ∧ (((cell .free).groups.get 0).state ≠ .undefined ∧ ((cell .free).windows.get 0).state = .closed
        ∧ Settled (cell .free) ∧ PortIdle (cell .free))
      ∧ (let s := withWindow { Window.reset with state := .openValid } (cell .free)
        (s.windows.get 0).state ≠ .closed ∧ Settled s ∧ PortIdle s) := by decide +kernel

theorem witness_RingRequests :
    Settled rest ∧ PortIdle rest ∧ RingRange 0 8 0 ∧ RingRange 31 8 0 ∧ RingRange 27 16 1 ∧ RingRange 2 32 3
      ∧ ¬ RingRange 32 8 0 ∧ ¬ RingRange 0 8 1 := by decide +kernel

theorem witness_PortRequests :
    (Settled rest ∧ PortIdle rest ∧ rest.permit.mask = 0#4 ∧ rest.port.prepared = false)
      ∧ (Settled (cell .locked) ∧ PortIdle (cell .locked) ∧ (cell .locked).permit.mask ≠ 0#4)
      ∧ (let s : State := { rest with port := { rest.port with prepared := true } }
        Settled s ∧ PortIdle s ∧ s.port.prepared = true) := by decide +kernel

/-- The reply of 35 µs being sent. -/
def sending (reset : Bool) : Sending :=
  { code := 0x4B#8, tag := 0#8, reply := { status := .ok, body := [] }, due := 35, thenReset := reset }

def replying (reset : Bool) (q : List Frame) : State :=
  { rest with clock := 35, port := { rest.port with tx := some (sending reset), queue := q } }

theorem witness_Resets :
    (replying true []).port.tx = some (sending true) ∧ (sending true).thenReset = true
      ∧ (sending true).due ≤ (replying true []).clock := by decide +kernel

/-- A frame of CLOCK READ in assembly, all but the second CHECK byte received. -/
def assembling (bs : List Byte) : State :=
  { rest with clock := 2000, port := { rest.port with rx := .assembling bs, gapDue := some 2000 } }

theorem witness_ReceiverAssemblesAndChecksFrames :
    (Settled rest ∧ rest.port.rx = .hunting)
      ∧ (Settled (assembling []) ∧ (assembling []).port.rx = .assembling []
        ∧ Reached (assembling []) (assembling []).port.gapDue)
      ∧ (250 < (251#8).toNat ∧ (250#8).toNat ≤ 250 ∧ ([] ++ [250#8]).length ≠ 250 + 5)
      ∧ (let all : List Byte := [0#8, 9#8, 1#8] ++ le 2 (crc16 [0#8, 9#8, 1#8]).toNat
        all.length = 0 + 5 ∧ all.drop (0 + 3) = le 2 (crc16 (all.take (0 + 3))).toNat
          ∧ (Instr.clockRead 9#8 []).frame? = some ⟨all.getD 2 0#8, all.getD 1 0#8, (all.drop 3).take 0⟩)
      ∧ (let all : List Byte := [0#8, 9#8, 1#8, 0#8, 0#8]
        all.length = 0 + 5 ∧ all.drop (0 + 3) ≠ le 2 (crc16 (all.take (0 + 3))).toNat) := by decide +kernel

theorem witness_FramesWaitAndAreTakenInOrder :
    (Settled (replying false []) ∧ (replying false []).port.tx = some (sending false)
        ∧ (replying false []).port.queue.length < 4 ∧ (sending false).due ≤ (replying false []).clock
        ∧ (sending false).thenReset = false ∧ (replying false []).port.queue = [])
      ∧ (let f : Frame := ⟨1#8, 9#8, []⟩
        Settled (replying false [f, f, f, f]) ∧ 4 ≤ (replying false [f, f, f, f]).port.queue.length
          ∧ (replying false [f, f, f, f]).port.queue = f :: [f, f, f]
          ∧ (Instr.clockRead 9#8 []).frame? = some f) := by decide +kernel

theorem witness_InvalidFormsAreRefused :
    (Settled rest ∧ PortIdle rest ∧ ReqKind.ofCode 0x06#8 = none)
      ∧ ([0#8] : List Byte).length ≠ ReqKind.clockRead.bodyLength
      ∧ ([4#8] : List Byte).length = ReqKind.encoderRead.bodyLength ∧ ¬ ValidBody .encoderRead [4#8] :=
  ⟨by decide +kernel, by decide, by decide, fun ⟨n, h⟩ => by revert n; decide⟩

theorem witness_RefusedRequestsChangeNothing :
    Settled rest ∧ PortIdle rest ∧ (Instr.engage 0#8 [0#8, 0#8]).frame? = some ⟨0x23#8, 0#8, [0#8, 0#8]⟩
      ∧ ∃ t x, exec (.engage 0#8 [0#8, 0#8]) rest = .next t ∧ t.port.tx = some x ∧ x.reply.status ≠ .ok :=
  ⟨by decide +kernel, by decide +kernel, rfl, _, _, rfl, rfl, by decide +kernel⟩

theorem witness_FieldsCodesAndFlagNumbers :
    (0 : Nat) < 8 ∧ (33 : Nat) < 34 ∧ -(256 : Int) ^ 4 ≤ 2 * (-2147483648) ∧ 2 * 2147483647 < (256 : Int) ^ 4 := by decide

end Sys2Proof.Tests
end

section
/-! SUPPORT. CAPABILITY READ (R54): what a request that only reads leaves, how its body is judged, and the statement on the capability table. -/

namespace Sys2Proof.Machine

/-- A request that performs no change is answered, and nothing else is changed. -/
theorem submit_read (k : ReqKind) (tag : Byte) (body : List Byte) (s : State) (st : Status) (b : List Byte)
    (hs : Settled s) (h : PortIdle s) (hb : body.length = k.bodyLength) (hk : k ≠ .resetExecute)
    (hp : perform k s.port.prepared body s.taking = (s.taking, { status := st, body := b })) :
    submit k.code tag body s = .next (s.replied k.code tag st b) :=
  request_quiet k tag body s s st b hs h hb hk hp rfl rfl rfl fun _ => rfl

/-- A body of a wrong length is answered with BAD_LENGTH, and nothing else is changed (R186, R187). -/
theorem submit_badLength (k : ReqKind) (tag : Byte) (body : List Byte) (s : State)
    (hs : Settled s) (h : PortIdle s) (hb : body.length ≠ k.bodyLength) :
    submit k.code tag body s = .next (s.replied k.code tag .badLength []) := by
  unfold submit done
  rw [acceptFrame_idle _ _ h, takeRequest_badLength k tag body s hb, settle_replied s hs]

theorem capabilityForm_length (o l : Nat) : (capabilityForm o l).length = ReqKind.capabilityRead.bodyLength := rfl

/-- An offset outside 0 to 9, a length outside 1 to 10, or an end beyond the table is no valid form (R54). -/
theorem capabilityBody_form_outside (o l : Nat) (ho : o < 256) (hl : l < 256)
    (h : 9 < o ∨ l = 0 ∨ 10 < l ∨ 10 < o + l) : capabilityBody (capabilityForm o l) = none := by
  have offset : byteAt (capabilityForm o l) 0 = o := (byte_toNat o).trans (Nat.mod_eq_of_lt ho)
  have length : byteAt (capabilityForm o l) 1 = l := (byte_toNat l).trans (Nat.mod_eq_of_lt hl)
  have refused : (within 0 9 o && within 1 10 l && decide (o + l ≤ 10)) = false := by
    simp only [within, Bool.and_eq_false_iff, decide_eq_false_iff_not]
    omega
  simp only [capabilityBody, offset, length, refused, check, Bool.false_eq_true, if_false]

theorem reqCapabilityRead_inside (body : List Byte) (s : State) (o l : Nat) (h : capabilityBody body = some (o, l)) :
    reqCapabilityRead body s = (s, okReply ((Config.capabilityTable.drop o).take l)) := by
  simp only [reqCapabilityRead, h]

theorem reqCapabilityRead_refused (body : List Byte) (s : State) (h : capabilityBody body = none) :
    reqCapabilityRead body s = (s, refuse .badValue) := by
  simp only [reqCapabilityRead, h]

/-- CAPABILITY READ of a part of the table returns its bytes (R54). -/
theorem exec_capabilityRead_inside (s : State) (tag : Byte) (hs : Settled s) (hp : PortIdle s) (o l : Nat)
    (ho : o ≤ 9) (hl1 : 1 ≤ l) (hl : l ≤ 10) (hend : o + l ≤ 10) :
    exec (.capabilityRead tag (capabilityForm o l)) s
      = .next (s.replied 0x1C#8 tag .ok ((Config.capabilityTable.drop o).take l)) :=
  (exec_row .capabilityRead tag _ s).trans <|
    submit_read .capabilityRead tag _ s .ok _ hs hp (capabilityForm_length o l) (by decide) <|
      reqCapabilityRead_inside _ s.taking o l (capabilityBody_form o l ho hl1 hl hend)

/-- CAPABILITY READ beyond the table is answered with BAD_VALUE (R54, R186). -/
theorem exec_capabilityRead_outside (s : State) (tag : Byte) (hs : Settled s) (hp : PortIdle s) (o l : Nat)
    (ho : o < 256) (hl : l < 256) (h : 9 < o ∨ l = 0 ∨ 10 < l ∨ 10 < o + l) :
    exec (.capabilityRead tag (capabilityForm o l)) s = .next (s.replied 0x1C#8 tag .badValue []) :=
  (exec_row .capabilityRead tag _ s).trans <|
    submit_read .capabilityRead tag _ s .badValue _ hs hp (capabilityForm_length o l) (by decide) <|
      reqCapabilityRead_refused _ s.taking (capabilityBody_form_outside o l ho hl h)

/-- CAPABILITY READ with a body of another length than two is answered with BAD_LENGTH (R186). -/
theorem exec_capabilityRead_badLength (s : State) (tag : Byte) (hs : Settled s) (hp : PortIdle s) (b : List Byte)
    (hb : b.length ≠ 2) :
    exec (.capabilityRead tag b) s = .next (s.replied 0x1C#8 tag .badLength []) :=
  (exec_row .capabilityRead tag b s).trans (submit_badLength .capabilityRead tag b s hs hp hb)

/-- Settles O32, by the three outcomes of the examination: the body within the table, beyond it, or of another length. -/
theorem capabilityTable : Obligations.CapabilityTable := fun s tag hs hp =>
  ⟨exec_capabilityRead_inside s tag hs hp, exec_capabilityRead_outside s tag hs hp,
    exec_capabilityRead_badLength s tag hs hp⟩

end Sys2Proof.Machine
end

section
/-! SUPPORT. The control period's shares and corrections (R91, R92, R97): clamping, the division of a force among members, and the statements on them. -/

namespace Sys2Proof.Machine

/-! ## Clamping (R87) -/

theorem hold_eq_max_min (lo hi v : Int) (h : lo ≤ hi) : hold lo hi v = max lo (min hi v) := by
  unfold hold
  split
  case isTrue below => rw [min_eq_right (by omega), max_eq_left (by omega)]
  case isFalse notBelow =>
    split
    case isTrue above => rw [min_eq_left (by omega), max_eq_right h]
    case isFalse notAbove => rw [min_eq_right (by omega), max_eq_right (by omega)]

theorem hold32_eq_clamp32 (v : Int) : hold32 v = clamp32 v := hold_eq_max_min _ _ v (by decide)

/-! ## The corrections of a LINKED group (R91, R92) -/

theorem rawCorrection_eq (t : Tuning) (p q : Nat) (e : Errors) :
    rawCorrection t (p, q) e
      = clamp32 (Int.tdiv (p * (t.kp * e.pos + 1000 * t.kd * e.spd)) (1000 * q)) :=
  hold32_eq_clamp32 _

theorem linkedCorrections_values (t : Tuning) (pq : Nat × Nat) (e : Errors) (es : List Errors) :
    (linkedCorrections t pq (e :: es)).values
      = 0 :: es.map fun x => max (-(t.correctionLimit : Int)) (min t.correctionLimit (rawCorrection t pq x)) := by
  have clamped (v : Int) : hold (-(t.correctionLimit : Int)) t.correctionLimit v
      = max (-(t.correctionLimit : Int)) (min t.correctionLimit v) := hold_eq_max_min _ _ v (by omega)
  simp only [linkedCorrections, List.map_map, Function.comp_def, clamped]

/-- A magnitude beyond the limit is a value beyond one of the two limits. -/
theorem lt_natAbs_iff (limit : Nat) (v : Int) : limit < v.natAbs ↔ v < -(limit : Int) ∨ (limit : Int) < v := by
  omega

theorem linkedCorrections_limited (t : Tuning) (pq : Nat × Nat) (e : Errors) (es : List Errors) :
    (linkedCorrections t pq (e :: es)).limited = true
      ↔ ∃ x ∈ es, rawCorrection t pq x < -(t.correctionLimit : Int) ∨ (t.correctionLimit : Int) < rawCorrection t pq x := by
  simp only [linkedCorrections, List.any_map, List.any_eq_true, Function.comp_apply, decide_eq_true_eq, lt_natAbs_iff]

/-- Settles O39, from the values and the flag "correction limited" of a LINKED group, the raw correction written out. -/
theorem linkedCorrectionsAreClamped : Obligations.LinkedCorrectionsAreClamped := by
  intro t p q e es raw limit c
  have raw_eq : raw = rawCorrection t (p, q) := funext fun x => (rawCorrection_eq t p q x).symm
  rw [raw_eq]
  exact ⟨linkedCorrections_values t (p, q) e es, rfl, linkedCorrections_limited t (p, q) e es⟩

/-! ## The division of the road-load force (R97) -/

theorem withRemainder_sum (parts : List Int) (total : Int) : (withRemainder parts total).sum = total := by
  simp [withRemainder]

theorem roadShares_append (force : Int) (shares : List Nat) (last : Nat) :
    roadShares force (shares ++ [last])
      = shares.map (fun (p : Nat) => Int.tdiv (force * (p : Int)) 1000)
          ++ [force - (shares.map fun (p : Nat) => Int.tdiv (force * (p : Int)) 1000).sum] := by
  rw [roadShares, List.dropLast_concat, withRemainder]

theorem roadShares_zero (shares : List Nat) : ∀ x ∈ roadShares 0 shares, x = 0 := by
  have part_zero (p : Nat) : Int.tdiv (0 * (p : Int)) 1000 = 0 := by rw [zero_mul, Int.zero_tdiv]
  intro x hx
  simp only [roadShares, withRemainder, part_zero, List.mem_append, List.mem_map, List.mem_singleton] at hx
  obtain ⟨_, _, rfl⟩ | rfl := hx
  · rfl
  · simp

/-- A share rounded toward zero, taken back to thousandths, loses less than one unit of force. -/
theorem natAbs_sub_mul_tdiv_le (x : Int) : (x - 1000 * Int.tdiv x 1000).natAbs ≤ 1000 := by
  have remainder : x - 1000 * Int.tdiv x 1000 = Int.tmod x 1000 := (Int.tmod_def x 1000).symm
  rw [remainder, Int.natAbs_tmod]
  exact (Nat.mod_lt _ (by decide)).le

/-- The rounded shares of some members together lose at most one unit of force for each of them. -/
theorem roundedShares_sum_error (force : Int) (shares : List Nat) :
    (force * shares.sum - 1000 * (shares.map fun (p : Nat) => Int.tdiv (force * (p : Int)) 1000).sum).natAbs
      ≤ 1000 * shares.length := by
  induction shares with
  | nil => simp
  | cons p ps ih =>
    have one := natAbs_sub_mul_tdiv_le (force * p)
    have split_force : force * ((p :: ps).sum : Nat) = force * p + force * ps.sum := by
      rw [List.sum_cons, Nat.cast_add, mul_add]
    rw [split_force, List.map_cons, List.sum_cons, List.length_cons]
    omega

/-- For shares of 1000 thousandths, what the last member is off its own proportion is what the others lose. -/
theorem lastShare_error (force : Int) (shares : List Nat) (last : Nat) (whole : shares.sum + last = 1000) :
    (1000 * (force - (shares.map fun (p : Nat) => Int.tdiv (force * (p : Int)) 1000).sum) - force * last).natAbs
      ≤ 1000 * shares.length := by
  have others := roundedShares_sum_error force shares
  have split_force : 1000 * force = force * shares.sum + force * last := by
    rw [← mul_add, ← Nat.cast_add, whole, Nat.cast_ofNat, mul_comm]
  rwa [mul_sub, split_force, add_sub_right_comm, add_sub_cancel_right]

/-- The shares read as whole numbers, as the statement writes them, are mapped like the shares themselves. -/
theorem map_castShares (f : Int → Int) (shares : List Nat) :
    List.map f (do let p ← shares; pure (p : Int)) = shares.map fun (p : Nat) => f p := by
  rw [List.bind_eq_flatMap, List.map_flatMap, List.map_eq_flatMap]
  rfl

/-- Settles O42, from the sum of parts with a remainder and the bound on what the others' rounding loses. -/
theorem roadSharesSumToTheForce : Obligations.RoadSharesSumToTheForce := by
  intro force shares last r
  simp only [map_castShares]
  refine ⟨withRemainder_sum _ force, roadShares_append force shares last, ?_, lastShare_error force shares last⟩
  rintro rfl
  exact roadShares_zero (shares ++ [last])

end Sys2Proof.Machine
end

section
/-! SUPPORT. Refusal comes before any effect (R187): every request is either refused, with the state as it stood, or performed and answered OK; what the taking of a refused request leaves; and the statement on refused requests. -/

namespace Sys2Proof.Machine

/-! ## The two outcomes of an examination -/

/-- What a request that finds the state `s` comes to: refused with a status, an empty body and `s` itself, or performed
and answered OK (R184, R187). -/
inductive Examined (s : State) : State × Reply → Prop
  | refused (st : Status) : Examined s (s, refuse st)
  | performed (t : State) (body : List Byte) : Examined s (t, okReply body)

namespace Examined

variable {s : State} {p q : State × Reply}

theorem ite {c : Prop} [Decidable c] (hp : Examined s p) (hq : Examined s q) : Examined s (if c then p else q) := by
  split
  · exact hp
  · exact hq

/-- A cause of refusal that is tested before the rest of the rule. -/
theorem guarded {c : Prop} [Decidable c] {st : Status} (hq : Examined s q) :
    Examined s (if c then (s, refuse st) else q) :=
  ite (refused st) hq

/-- Another status than OK tells the whole outcome. -/
theorem eq_refuse (h : Examined s p) (hst : p.2.status ≠ .ok) : p = (s, refuse p.2.status) := by
  cases h with
  | refused st => rfl
  | performed t body => exact absurd rfl hst

end Examined

/-! ## Links (R24, R25) -/

theorem reqLinkEnable_examined (body : List Byte) (s : State) : Examined s (reqLinkEnable body s) := by
  unfold reqLinkEnable
  split
  · exact .refused _
  · exact .ite (.performed _ _) (.performed _ _)

theorem reqLinkRestart_examined (body : List Byte) (s : State) : Examined s (reqLinkRestart body s) := by
  unfold reqLinkRestart
  split
  · exact .refused _
  · exact .guarded (.performed _ _)

/-! ## Calibration store and station settings (R46, R50, R56) -/

theorem reqCalWrite_examined (body : List Byte) (s : State) : Examined s (reqCalWrite body s) := by
  unfold reqCalWrite
  split
  · exact .refused _
  · exact .guarded (.guarded (.guarded (.performed _ _)))

theorem reqCalLock_examined (body : List Byte) (s : State) : Examined s (reqCalLock body s) := by
  unfold reqCalLock
  split
  · exact .refused _
  · exact .guarded (.guarded (.ite (.performed _ _) (.refused _)))

theorem reqStationSet_examined (body : List Byte) (s : State) : Examined s (reqStationSet body s) := by
  unfold reqStationSet
  split
  · exact .refused _
  · exact .guarded (.performed _ _)

/-! ## Coupling groups (R66, R68, R70, R74, R75) -/

theorem reqGroupDefine_examined (body : List Byte) (s : State) : Examined s (reqGroupDefine body s) := by
  unfold reqGroupDefine
  split
  · exact .refused _
  · exact .guarded (.guarded (.performed _ _))

theorem reqGroupTune_examined (body : List Byte) (s : State) : Examined s (reqGroupTune body s) := by
  unfold reqGroupTune
  split
  case h_1 invalid => exact .refused _
  case h_2 g t valid =>
    dsimp only
    split
    case h_1 | h_2 => exact .refused _
    case h_3 defined => exact .performed _ _

/-- A group in FREE or HELD engages where none of causes 4 to 8 of R70 stands. -/
theorem reqEngage_examined (body : List Byte) (s : State) : Examined s (reqEngage body s) := by
  unfold reqEngage
  split
  case h_1 invalid => exact .refused _
  case h_2 g valid =>
    dsimp only
    split
    case h_1 | h_2 =>
      split
      case h_1 cause => exact .refused _
      case h_2 noCause => exact .performed _ _
    case h_3 otherState => exact .refused _

theorem reqRelease_examined (body : List Byte) (s : State) : Examined s (reqRelease body s) := by
  unfold reqRelease
  split
  case h_1 invalid => exact .refused _
  case h_2 g valid =>
    cases (s.groups.get g).state with
    | engaging | locked | slipping | held => exact .performed _ _
    | tripped => exact .guarded (.performed _ _)
    | free | undefined => exact .refused _

theorem reqDisband_examined (body : List Byte) (s : State) : Examined s (reqDisband body s) := by
  unfold reqDisband
  split
  · exact .refused _
  · exact .ite (.performed _ _) (.refused _)

/-! ## Scheduler and permits (R111, R133, R135) -/

theorem reqSegmentQueue_examined (body : List Byte) (s : State) : Examined s (reqSegmentQueue body s) := by
  unfold reqSegmentQueue
  split
  · exact .refused _
  · exact .guarded (.guarded (.performed _ _))

theorem reqPermitGrant_examined (body : List Byte) (s : State) : Examined s (reqPermitGrant body s) := by
  unfold reqPermitGrant
  split
  · exact .refused _
  · exact .guarded (.guarded (.performed _ _))

theorem reqPermitRenew_examined (body : List Byte) (s : State) : Examined s (reqPermitRenew body s) := by
  unfold reqPermitRenew
  split
  · exact .refused _
  · exact .ite (.performed _ _) (.refused _)

/-! ## Validity windows (R171, R174) -/

theorem reqWindowOpen_examined (body : List Byte) (s : State) : Examined s (reqWindowOpen body s) := by
  unfold reqWindowOpen
  split
  · exact .refused _
  · exact .guarded (.performed _ _)

theorem reqWindowClose_examined (body : List Byte) (s : State) : Examined s (reqWindowClose body s) := by
  unfold reqWindowClose
  split
  case h_1 invalid => exact .refused _
  case h_2 g valid =>
    dsimp only
    cases (s.windows.get g).state with
    | closed => exact .refused _
    | openValid | openInvalid => exact .performed _ _

/-! ## Every request (R186) -/

/-- A defined request of the right length is refused or performed: some requests are never refused, some only for the
values of their body, and the others as their own rules say. -/
theorem perform_examined (k : ReqKind) (held : Bool) (body : List Byte) (s : State) :
    Examined s (perform k held body s) := by
  cases k with
  | clockRead | markArm | markRead | calState | scheduleRead | permitRead | flagsRead | cellStatus | portCounters =>
    exact .performed _ _
  | encoderRead | encoderCounters | linkStatus | linkCounters | calRead | capabilityRead | stationRead | groupRead
  | segmentFlush | segmentCancel | permitTime | filterSet | sourceEnable | flagsClear | forceSet | noticeMask
  | excursionFetch | windowRead | ringRead | ringFreeze | ringUnfreeze =>
    simp only [perform, reqEncoderRead, reqEncoderCounters, reqLinkStatus, reqLinkCounters, reqCalRead,
      reqCapabilityRead, reqStationRead, reqGroupRead, reqSegmentFlush, reqSegmentCancel, reqPermitTime, reqFilterSet,
      reqSourceEnable, reqFlagsClear, reqForceSet, reqNoticeMask, reqExcursionFetch, reqWindowRead, reqRingRead,
      reqRingFreeze, reqRingUnfreeze]
    split
    case h_1 invalid => exact .refused .badValue
    case h_2 valid => exact .performed _ _
  | linkEnable => exact reqLinkEnable_examined body s
  | linkRestart => exact reqLinkRestart_examined body s
  | calWrite => exact reqCalWrite_examined body s
  | calLock => exact reqCalLock_examined body s
  | stationSet => exact reqStationSet_examined body s
  | groupDefine => exact reqGroupDefine_examined body s
  | groupTune => exact reqGroupTune_examined body s
  | engage => exact reqEngage_examined body s
  | release => exact reqRelease_examined body s
  | disband => exact reqDisband_examined body s
  | segmentQueue => exact reqSegmentQueue_examined body s
  | permitGrant => exact reqPermitGrant_examined body s
  | permitRenew => exact reqPermitRenew_examined body s
  | windowOpen => exact reqWindowOpen_examined body s
  | windowClose => exact reqWindowClose_examined body s
  | resetPrepare => exact .ite (.performed _ _) (.refused .state)
  | resetExecute => exact .ite (.performed _ _) (.refused .notArmed)

/-- The classes of R186 one after another: an unassigned code, a wrong length, and the request's own rule. -/
theorem examine_examined (f : Frame) (held : Bool) (s : State) : Examined s (examine f held s) := by
  unfold examine
  split
  case h_1 unassigned => exact .refused .unknownCode
  case h_2 k defined => exact .ite (perform_examined k held f.body s) (.refused .badLength)

/-! ## The taking of a refused request -/

/-- A refusal orders no port reset (R192). -/
theorem ordersReset_refuse (f : Frame) {st : Status} (h : st ≠ .ok) : ordersReset f (refuse st) = false := by
  simp [ordersReset, refuse, h]

/-- The reply that is on the line is the one the examination gave. -/
theorem takeRequest_tx (f : Frame) (s : State) :
    (takeRequest f s).port.tx.map (·.reply) = some (examine f s.port.prepared s.taking).2 := rfl

/-- A refused request leaves its reply, with an empty body, and the preparation cleared (R184, R187, R191). -/
theorem takeRequest_refused (f : Frame) (s : State) {st : Status} (hst : st ≠ .ok)
    (he : examine f s.port.prepared s.taking = (s.taking, refuse st)) :
    takeRequest f s = s.replied f.code f.tag st [] := by
  calc takeRequest f s
      = startReply f (ordersReset f (refuse st)) (refuse st) s.taking := by
        rw [takeRequest]
        exact congrArg (fun p => startReply f (ordersReset f p.2) p.2 p.1) he
    _ = startReply f false (refuse st) s.taking := by rw [ordersReset_refuse f hst]
    _ = s.replied f.code f.tag st [] := startReply_replied f (refuse st) s s.taking rfl rfl

/-- Settles O59: the status on the line is the examination's, which for another status than OK left the state as it
stood. -/
theorem refusedRequestsChangeNothing : Obligations.RefusedRequestsChangeNothing := by
  intro s i f t x hs hp hf hexec htx hst
  obtain rfl : settle (takeRequest f s) = t := by
    rw [exec_frame i f s hf, acceptFrame_idle f s hp, done] at hexec
    exact Host.Outcome.next.inj hexec
  have reply_eq : (examine f s.port.prepared s.taking).2 = x.reply := by
    rw [settle_port] at htx
    have onLine := takeRequest_tx f s
    rw [htx] at onLine
    exact (Option.some.inj onLine).symm
  rw [← reply_eq] at hst ⊢
  have refusal := (examine_examined f s.port.prepared s.taking).eq_refuse hst
  rw [takeRequest_refused f s hst refusal, settle_replied s hs]

end Sys2Proof.Machine
end

section
/-! SUPPORT. What a step can do, block by block: the blocks each request and each event can change, and the shape of every proof that a step keeps an invariant. -/

set_option Elab.async false

namespace Sys2Proof.Machine

/-! ## Blocks -/

/-- The blocks of the state; the monitor's filters and TRIP_OUT stand apart from the rest of it. -/
inductive Block where
  | clock | mark | units | links | cal | settings | groups | posted | road | scheds | permit | filters | tripOut | mon
  | exc | windows | rings | port | pending | free
deriving DecidableEq

/-- A block is the same in two states. -/
def Block.Same (b : Block) (s t : State) : Prop :=
  match b with
  | .clock => t.clock = s.clock
  | .mark => t.mark = s.mark
  | .units => t.units = s.units
  | .links => t.links = s.links
  | .cal => t.cal = s.cal
  | .settings => t.settings = s.settings
  | .groups => t.groups = s.groups
  | .posted => t.posted = s.posted
  | .road => t.road = s.road
  | .scheds => t.scheds = s.scheds
  | .permit => t.permit = s.permit
  | .filters => (t.mon.flags, t.mon.times, t.mon.enabled) = (s.mon.flags, s.mon.times, s.mon.enabled)
  | .tripOut => t.mon.tripOut = s.mon.tripOut
  | .mon => t.mon = { s.mon with flags := t.mon.flags, times := t.mon.times, enabled := t.mon.enabled,
                                 tripOut := t.mon.tripOut }
  | .exc => t.exc = s.exc
  | .windows => t.windows = s.windows
  | .rings => t.rings = s.rings
  | .port => t.port = s.port
  | .pending => t.pending = s.pending
  | .free => t.freeCount = s.freeCount

theorem Block.Same.refl (b : Block) (s : State) : b.Same s s := by
  cases b <;> rfl

theorem Block.Same.trans {b : Block} {s t u : State} (h : b.Same s t) (k : b.Same t u) : b.Same s u := by
  cases b with
  | mon =>
    simp only [Block.Same] at h k ⊢
    rw [k, h]
  | _ => exact Eq.trans k h

/-- Every block but those of a list is the same. -/
def SameBut (bs : List Block) (s t : State) : Prop := ∀ b, b ∉ bs → b.Same s t

theorem SameBut.refl (bs : List Block) (s : State) : SameBut bs s s := fun b _ => Block.Same.refl b s

theorem SameBut.trans {bs : List Block} {s t u : State} (h : SameBut bs s t) (k : SameBut bs t u) : SameBut bs s u :=
  fun b hb => (h b hb).trans (k b hb)

theorem SameBut.mono {as bs : List Block} {s t : State} (h : SameBut as s t) (hs : as ⊆ bs) : SameBut bs s t :=
  fun b hb => h b fun ha => hb (hs ha)

theorem SameBut.ite {bs : List Block} {s t u : State} {c : Prop} [Decidable c] (h : SameBut bs s t)
    (k : SameBut bs s u) : SameBut bs s (if c then t else u) := by
  split
  · exact h
  · exact k

/-- The same for the two outcomes of a request's rule. -/
theorem SameBut.iteFst {bs : List Block} {s : State} {p q : State × Reply} {c : Prop} [Decidable c]
    (h : SameBut bs s p.1) (k : SameBut bs s q.1) : SameBut bs s (if c then p else q).1 := by
  split
  · exact h
  · exact k

section Updates

variable (s : State) {bs : List Block}

theorem sameBut_withMark (x : MarkCapture) (h : Block.mark ∈ bs := by decide) : SameBut bs s (s.withMark x) := by
  intro b hb
  cases b with
  | mark => exact absurd h hb
  | _ => rfl

theorem sameBut_withUnit (n : Station) (x : EncoderUnit) (h : Block.units ∈ bs := by decide) :
    SameBut bs s (s.withUnit n x) := by
  intro b hb
  cases b with
  | units => exact absurd h hb
  | _ => rfl

theorem sameBut_withLink (n : Station) (x : Link) (h : Block.links ∈ bs := by decide) :
    SameBut bs s (s.withLink n x) := by
  intro b hb
  cases b with
  | links => exact absurd h hb
  | _ => rfl

theorem sameBut_withCal (x : CalStore) (h : Block.cal ∈ bs := by decide) : SameBut bs s (s.withCal x) := by
  intro b hb
  cases b with
  | cal => exact absurd h hb
  | _ => rfl

theorem sameBut_withSettings (n : Station) (x : Settings) (h : Block.settings ∈ bs := by decide) :
    SameBut bs s (s.withSettings n x) := by
  intro b hb
  cases b with
  | settings => exact absurd h hb
  | _ => rfl

theorem sameBut_withGroup (g : GroupId) (x : Group) (h : Block.groups ∈ bs := by decide) :
    SameBut bs s (s.withGroup g x) := by
  intro b hb
  cases b with
  | groups => exact absurd h hb
  | _ => rfl

theorem sameBut_withPosted (x : Quad Int) (h : Block.posted ∈ bs := by decide) : SameBut bs s (s.withPosted x) := by
  intro b hb
  cases b with
  | posted => exact absurd h hb
  | _ => rfl

theorem sameBut_withRoad (x : RoadQueue) (h : Block.road ∈ bs := by decide) : SameBut bs s (s.withRoad x) := by
  intro b hb
  cases b with
  | road => exact absurd h hb
  | _ => rfl

theorem sameBut_withScheds (x : Quad Schedule) (h : Block.scheds ∈ bs := by decide) :
    SameBut bs s { s with scheds := x } := by
  intro b hb
  cases b with
  | scheds => exact absurd h hb
  | _ => rfl

theorem sameBut_withSched (g : GroupId) (x : Schedule) (h : Block.scheds ∈ bs := by decide) :
    SameBut bs s (s.withSched g x) :=
  sameBut_withScheds s _ h

theorem sameBut_withPermit (x : Permit) (h : Block.permit ∈ bs := by decide) : SameBut bs s (s.withPermit x) := by
  intro b hb
  cases b with
  | permit => exact absurd h hb
  | _ => rfl

/-- The monitor but for its filters and TRIP_OUT. -/
theorem sameBut_withMon (m : Monitor) (hf : m.flags = s.mon.flags) (ht : m.times = s.mon.times)
    (he : m.enabled = s.mon.enabled) (ho : m.tripOut = s.mon.tripOut) (h : Block.mon ∈ bs := by decide) :
    SameBut bs s (s.withMon m) := by
  intro b hb
  cases b with
  | mon => exact absurd h hb
  | filters => simp only [Block.Same, State.withMon_mon, hf, ht, he]
  | tripOut => exact ho
  | _ => rfl

theorem sameBut_withAlerts (a : Alerts) (h : Block.mon ∈ bs := by decide) :
    SameBut bs s (s.withMon { s.mon with alerts := a }) :=
  sameBut_withMon s _ rfl rfl rfl rfl h

/-- The monitor's filters alone. -/
theorem sameBut_withFilters (f : FilteredFlags) (t : PerKind Nat) (e : PerKind Bool)
    (h : Block.filters ∈ bs := by decide) :
    SameBut bs s (s.withMon { s.mon with flags := f, times := t, enabled := e }) := by
  intro b hb
  cases b with
  | filters => exact absurd h hb
  | _ => rfl

theorem sameBut_withExc (x : ExcursionStore) (h : Block.exc ∈ bs := by decide) : SameBut bs s (s.withExc x) := by
  intro b hb
  cases b with
  | exc => exact absurd h hb
  | _ => rfl

theorem sameBut_withWindow (g : GroupId) (x : Window) (h : Block.windows ∈ bs := by decide) :
    SameBut bs s (s.withWindow g x) := by
  intro b hb
  cases b with
  | windows => exact absurd h hb
  | _ => rfl

theorem sameBut_withRing (g : GroupId) (x : Ring) (h : Block.rings ∈ bs := by decide) :
    SameBut bs s (s.withRing g x) := by
  intro b hb
  cases b with
  | rings => exact absurd h hb
  | _ => rfl

theorem sameBut_withPort (x : Port) (h : Block.port ∈ bs := by decide) : SameBut bs s (s.withPort x) := by
  intro b hb
  cases b with
  | port => exact absurd h hb
  | _ => rfl

theorem sameBut_withPending (x : List Instr) (h : Block.pending ∈ bs := by decide) :
    SameBut bs s (s.withPending x) := by
  intro b hb
  cases b with
  | pending => exact absurd h hb
  | _ => rfl

theorem sameBut_withFree (x : Nat) (h : Block.free ∈ bs := by decide) : SameBut bs s (s.withFree x) := by
  intro b hb
  cases b with
  | free => exact absurd h hb
  | _ => rfl

theorem sameBut_withClock (x : CellTime) (h : Block.clock ∈ bs := by decide) : SameBut bs s (s.withClock x) := by
  intro b hb
  cases b with
  | clock => exact absurd h hb
  | _ => rfl

end Updates

end Sys2Proof.Machine
end

section
/-! SUPPORT. The blocks that each shared operation, each request and each event can change. -/

set_option Elab.async false

namespace Sys2Proof.Machine

/-! ## Shared operations -/

section Operations

variable (s : State) {bs : List Block}

theorem sameBut_logRecord (r : ExcRecord) (h : [Block.exc, .mon] ⊆ bs := by decide) :
    SameBut bs s (logRecord r s) := by
  obtain ⟨e, a, heq⟩ := logRecord_frame r s
  rw [heq]
  exact ((sameBut_withExc s (bs := [.exc, .mon]) e).trans (sameBut_withAlerts _ a)).mono h

theorem sameBut_closeExcursion (g : GroupId) (oc : ExcOutcome) (h : [Block.groups, .exc, .mon] ⊆ bs := by decide) :
    SameBut bs s (closeExcursion g oc s).1 := by
  obtain ⟨e, a, heq⟩ := closeExcursion_frame g oc s
  rw [heq]
  exact ((sameBut_withGroup s (bs := [.groups, .exc, .mon]) g _).trans
    ((sameBut_withExc _ e).trans (sameBut_withAlerts _ a))).mono h

theorem sameBut_writeClosed (g : GroupId) (k : ExcKind) (st : CellTime) (oc : ExcOutcome)
    (h : [Block.exc, .mon] ⊆ bs := by decide) : SameBut bs s (writeClosed g k st oc s).1 := by
  obtain ⟨e, a, heq⟩ := writeClosed_frame g k st oc s
  rw [heq]
  exact ((sameBut_withExc s (bs := [.exc, .mon]) e).trans (sameBut_withAlerts _ a)).mono h

theorem sameBut_windowCause (g : GroupId) (r : Option ExcRecord) (own : Option CauseKind)
    (h : Block.windows ∈ bs := by decide) : SameBut bs s (windowCause g r own s) := by
  obtain ⟨w, heq⟩ := windowCause_frame g r own s
  rw [heq]
  exact sameBut_withWindow s g w h

theorem sameBut_postZero (g : GroupId) (h : Block.posted ∈ bs := by decide) : SameBut bs s (postZero g s) :=
  sameBut_withPosted s _ h

theorem sameBut_enterFree (g : GroupId) (h : [Block.groups, .posted] ⊆ bs := by decide) :
    SameBut bs s (enterFree g s) :=
  ((sameBut_postZero s (bs := [.groups, .posted]) g).trans (sameBut_withGroup _ g _)).mono h

/-- The blocks a HELD claim can change (R77). -/
def claimBlocks : List Block := [.groups, .posted, .exc, .mon, .windows]

theorem sameBut_claimHeld (g : GroupId) : SameBut claimBlocks s (claimHeld g s) := by
  obtain ⟨x, p, e, a, w, heq⟩ := claimHeld_frame g s
  rw [heq]
  exact (sameBut_withGroup s g x).trans ((sameBut_withPosted _ p).trans ((sameBut_withExc _ e).trans
    ((sameBut_withAlerts _ a).trans (sameBut_withWindow _ g w))))

theorem sameBut_claimStation (n : Station) : SameBut claimBlocks s (claimStation n s) := by
  unfold claimStation
  split
  · exact sameBut_claimHeld s _
  · exact .refl _ s

/-- A fold over the groups whose every step changes blocks of a list alone. -/
theorem sameBut_foldl {f : State → GroupId → State} (hf : ∀ t g, SameBut bs t (f t g)) (gs : List GroupId) :
    SameBut bs s (gs.foldl f s) := by
  induction gs generalizing s with
  | nil => exact .refl _ s
  | cons g gs ih => exact (hf s g).trans (ih _)

theorem sameBut_claimRemoved (removed : BitVec 4) : SameBut claimBlocks s (claimRemoved removed s) :=
  sameBut_foldl s (fun t g => .ite (sameBut_claimHeld t g) (.refl _ t)) allFour

/-- The blocks that the end of an event can change. -/
def endBlocks : List Block := [.groups, .posted, .permit, .filters, .tripOut, .mon, .exc, .windows, .rings]

theorem sameBut_tripGroup (g : GroupId) : SameBut [.groups, .posted, .mon, .exc, .windows, .rings] s (tripGroup g s) := by
  have record : SameBut [.groups, .posted, .mon, .exc, .windows, .rings] s (tripRecord g s).1 := by
    unfold tripRecord
    cases (s.groups.get g).openSlip with
    | some _ => exact sameBut_closeExcursion s g _
    | none =>
      cases (s.groups.get g).state with
      | locked | engaging => exact sameBut_writeClosed s g _ _ _
      | undefined | free | slipping | held | tripped => exact .refl _ s
  unfold tripGroup
  exact .ite ((((record.trans (sameBut_postZero _ g)).trans (sameBut_withGroup _ g _)).trans
    (sameBut_withRing _ g _)).trans (sameBut_windowCause _ g _ _)) (.refl _ s)

theorem sameBut_tripEvent :
    SameBut [.groups, .posted, .permit, .mon, .exc, .windows, .rings] s (tripEvent s) := by
  have counted : SameBut [.groups, .posted, .permit, .mon, .exc, .windows, .rings] s
      (s.withMon { s.mon with tripCount := satInc s.mon.tripCount }) := sameBut_withMon s _ rfl rfl rfl rfl
  unfold tripEvent
  exact (counted.trans (sameBut_withPermit _ _)).trans
    (sameBut_foldl _ (fun t g => (sameBut_tripGroup t g).mono (by decide)) allFour)

theorem sameBut_handConditions (h : Block.filters ∈ bs := by decide) : SameBut bs s (handConditions s) :=
  sameBut_withFilters s _ _ _ h

theorem sameBut_driveLines : SameBut [.tripOut, .mon] s (driveLines s) := by
  intro b hb
  cases b with
  | tripOut | mon => exact absurd (by decide) hb
  | _ => rfl

theorem sameBut_settle : SameBut endBlocks s (settle s) := by
  have drive (t : State) : SameBut endBlocks t (driveLines t) := (sameBut_driveLines t).mono (by decide)
  unfold settle
  exact (sameBut_handConditions s).trans (.ite (((sameBut_tripEvent _).mono (by decide)).trans
    ((sameBut_handConditions _).trans (drive _))) (drive _))

end Operations

/-! ## Requests -/

/-- The blocks that a performed request can change. -/
def requestBlocks : ReqKind → List Block
  | .markArm => [.mark]
  | .encoderCounters => [.units]
  | .linkEnable => .settings :: .links :: claimBlocks
  | .linkRestart => .links :: claimBlocks
  | .linkStatus | .linkCounters => [.links]
  | .calWrite | .calLock => [.cal]
  | .stationSet => [.settings, .units, .links]
  | .groupDefine => [.groups, .rings, .posted]
  | .groupTune => [.groups]
  | .engage => [.groups, .rings, .mon]
  | .release => claimBlocks
  | .disband => [.groups, .posted, .road, .scheds, .windows]
  | .segmentQueue => [.road, .scheds]
  | .segmentFlush | .segmentCancel => [.road]
  | .scheduleRead => [.scheds]
  | .permitTime | .permitRenew => [.permit]
  | .permitGrant => .permit :: claimBlocks
  | .filterSet | .sourceEnable => [.filters]
  | .flagsClear => [.filters, .mon]
  | .forceSet | .noticeMask => [.mon]
  | .excursionFetch => [.exc]
  | .windowOpen | .windowClose => [.windows]
  | .ringFreeze | .ringUnfreeze => [.rings]
  | .portCounters | .resetPrepare => [.port]
  | .clockRead | .markRead | .encoderRead | .calRead | .calState | .capabilityRead | .stationRead | .groupRead
  | .permitRead | .flagsRead | .windowRead | .ringRead | .cellStatus | .resetExecute => []

section Requests

variable (s : State) (body : List Byte)

theorem sameBut_moveLink (n : Station) (h : Link → Link) : SameBut (.links :: claimBlocks) s (moveLink n h s) := by
  unfold moveLink
  exact .ite ((sameBut_withLink s n _).trans ((sameBut_claimStation _ n).mono (by decide))) (sameBut_withLink s n _)

theorem sameBut_reqLinkEnable : SameBut (requestBlocks .linkEnable) s (reqLinkEnable body s).1 := by
  unfold reqLinkEnable
  split
  case h_1 => exact .refl _ s
  case h_2 n v _ =>
    have enabled : SameBut (requestBlocks .linkEnable) s
        (s.withSettings n { s.settings.get n with linkEnable := v }) := sameBut_withSettings s n _
    exact .iteFst (enabled.trans (.ite (sameBut_withLink _ n _) (.refl _ _)))
      (enabled.trans ((sameBut_moveLink _ n _).mono (by decide)))

theorem sameBut_reqLinkRestart : SameBut (requestBlocks .linkRestart) s (reqLinkRestart body s).1 := by
  unfold reqLinkRestart
  split
  · exact .refl _ s
  · exact .iteFst (.refl _ s) (sameBut_moveLink s _ _)

theorem sameBut_reqCalWrite : SameBut (requestBlocks .calWrite) s (reqCalWrite body s).1 := by
  unfold reqCalWrite
  split
  · exact .refl _ s
  · exact .iteFst (.refl _ s) (.iteFst (.refl _ s) (.iteFst (.refl _ s) (sameBut_withCal s _)))

theorem sameBut_reqCalLock : SameBut (requestBlocks .calLock) s (reqCalLock body s).1 := by
  unfold reqCalLock
  split
  · exact .refl _ s
  · exact .iteFst (.refl _ s) (.iteFst (.refl _ s) (.iteFst (sameBut_withCal s _) (.refl _ s)))

theorem sameBut_reqStationSet : SameBut (requestBlocks .stationSet) s (reqStationSet body s).1 := by
  unfold reqStationSet
  split
  · exact .refl _ s
  · exact .iteFst (.refl _ s)
      (((sameBut_withSettings s _ _).trans (sameBut_withUnit _ _ _)).trans (sameBut_withLink _ _ _))

theorem sameBut_reqGroupDefine : SameBut (requestBlocks .groupDefine) s (reqGroupDefine body s).1 := by
  unfold reqGroupDefine
  split
  · exact .refl _ s
  · exact .iteFst (.refl _ s) (.iteFst (.refl _ s)
      (((sameBut_withGroup s _ _).trans (sameBut_withRing _ _ _)).trans (sameBut_postZero _ _)))

theorem sameBut_reqGroupTune : SameBut (requestBlocks .groupTune) s (reqGroupTune body s).1 := by
  unfold reqGroupTune
  split
  case h_1 => exact .refl _ s
  case h_2 =>
    dsimp only
    split
    case h_1 | h_2 => exact .refl _ s
    case h_3 => exact sameBut_withGroup s _ _

theorem sameBut_startGroup (g : GroupId) (d : GroupDef) : SameBut (requestBlocks .engage) s (startGroup g d s) := by
  have begun (x : Group) : SameBut (requestBlocks .engage) s
      ((s.withGroup g x).withRing g { (s.withGroup g x).rings.get g with frozen := false }) :=
    (sameBut_withGroup s g x).trans (sameBut_withRing _ g _)
  unfold startGroup
  exact .ite ((begun _).trans (sameBut_withAlerts _ _)) (begun _)

theorem sameBut_reqEngage : SameBut (requestBlocks .engage) s (reqEngage body s).1 := by
  unfold reqEngage
  split
  case h_1 => exact .refl _ s
  case h_2 =>
    dsimp only
    split
    case h_1 | h_2 =>
      split
      · exact .refl _ s
      · exact sameBut_startGroup s _ _
    case h_3 => exact .refl _ s

theorem sameBut_releaseGroup (g : GroupId) : SameBut claimBlocks s (releaseGroup g s) := by
  unfold releaseGroup
  exact (((sameBut_closeExcursion s g _).trans (sameBut_enterFree _ g)).trans (sameBut_withGroup _ g _)).trans
    (sameBut_windowCause _ g _ _)

theorem sameBut_reqRelease : SameBut (requestBlocks .release) s (reqRelease body s).1 := by
  unfold reqRelease
  split
  case h_1 => exact .refl _ s
  case h_2 g _ =>
    cases (s.groups.get g).state with
    | engaging | locked | slipping | held => exact sameBut_releaseGroup s g
    | tripped => exact .iteFst (.refl _ s) (sameBut_releaseGroup s g)
    | free | undefined => exact .refl _ s

theorem sameBut_disbandWindow (g : GroupId) : SameBut [.windows] s (disbandWindow g s) := by
  unfold disbandWindow
  dsimp only
  split
  · exact sameBut_windowCause s g _ _
  all_goals exact (sameBut_windowCause s g _ _).trans (sameBut_withWindow _ g _)

theorem sameBut_disbandSchedule (g : GroupId) : SameBut [.road, .scheds] s (disbandSchedule g s) :=
  (sameBut_withRoad s _).trans (sameBut_withSched _ g _)

theorem sameBut_disbandGroup (g : GroupId) : SameBut (requestBlocks .disband) s (disbandGroup g s) := by
  unfold disbandGroup
  exact (((sameBut_postZero s g).trans (sameBut_withGroup _ g _)).trans
    ((sameBut_disbandSchedule _ g).mono (by decide))).trans ((sameBut_disbandWindow _ g).mono (by decide))

theorem sameBut_reqDisband : SameBut (requestBlocks .disband) s (reqDisband body s).1 := by
  unfold reqDisband
  split
  · exact .refl _ s
  · exact .iteFst (sameBut_disbandGroup s _) (.refl _ s)

theorem sameBut_runActivations : SameBut [.road, .scheds] s (runActivations s) := by
  intro b hb
  cases b with
  | road | scheds => exact absurd (by decide) hb
  | _ => rfl

theorem sameBut_placeSegment (x : Segment) : SameBut [.road, .scheds] s (placeSegment x s).1 := by
  have placed (r : RoadQueue) : SameBut [.road, .scheds] s (s.withRoad r) := sameBut_withRoad s r
  have resolved (t : CellTime) (r : RoadQueue) : SameBut [.road, .scheds] s
      (if t ≤ s.clock then (runActivations (s.withRoad r), 2) else (s.withRoad r, 0)).1 := by
    split
    · exact (placed r).trans (sameBut_runActivations _)
    · exact placed r
  unfold placeSegment
  dsimp only
  split
  · exact resolved _ _
  · split
    · exact resolved _ _
    · exact placed _

theorem sameBut_reqSegmentQueue : SameBut (requestBlocks .segmentQueue) s (reqSegmentQueue body s).1 := by
  unfold reqSegmentQueue
  split
  · exact .refl _ s
  · exact .iteFst (.refl _ s) (.iteFst (.refl _ s) (sameBut_placeSegment s _))

theorem sameBut_reqPermitGrant : SameBut (requestBlocks .permitGrant) s (reqPermitGrant body s).1 := by
  unfold reqPermitGrant
  split
  · exact .refl _ s
  · exact .iteFst (.refl _ s) (.iteFst (.refl _ s)
      ((sameBut_withPermit s _).trans ((sameBut_claimRemoved _ _).mono (by decide))))

theorem sameBut_reqPermitRenew : SameBut (requestBlocks .permitRenew) s (reqPermitRenew body s).1 := by
  unfold reqPermitRenew
  split
  · exact .refl _ s
  · exact .iteFst (sameBut_withPermit s _) (.refl _ s)

theorem sameBut_setFilter (k : FilterKind) (t : Nat) : SameBut [.filters] s (s.withMon (s.mon.setFilter k t)) := by
  unfold Monitor.setFilter
  dsimp only
  split
  · exact sameBut_withFilters s _ _ _
  · exact sameBut_withFilters s _ _ _

theorem sameBut_setSource (k : FilterKind) (on : Bool) (now : CellTime) :
    SameBut [.filters] s (s.withMon (s.mon.setSource k on now)) := by
  unfold Monitor.setSource
  dsimp only
  split
  · split
    · exact .refl _ s
    · exact sameBut_withFilters s _ _ _
  · exact sameBut_withFilters s _ _ _

theorem sameBut_clearFlags (w : BitVec 34) (now : CellTime) :
    SameBut [.filters, .mon] s (s.withMon (s.mon.clearFlags w now)) := by
  intro b hb
  cases b with
  | filters | mon => exact absurd (by decide) hb
  | _ => rfl

theorem sameBut_reqWindowOpen : SameBut (requestBlocks .windowOpen) s (reqWindowOpen body s).1 := by
  unfold reqWindowOpen
  split
  · exact .refl _ s
  · exact .iteFst (.refl _ s) (sameBut_withWindow s _ _)

theorem sameBut_reqWindowClose : SameBut (requestBlocks .windowClose) s (reqWindowClose body s).1 := by
  unfold reqWindowClose
  split
  case h_1 => exact .refl _ s
  case h_2 g _ =>
    dsimp only
    cases (s.windows.get g).state with
    | closed => exact .refl _ s
    | openValid | openInvalid => exact sameBut_withWindow s g _

/-- What a performed request leaves unchanged. -/
theorem sameBut_perform (k : ReqKind) (held : Bool) : SameBut (requestBlocks k) s (perform k held body s).1 := by
  cases k with
  | clockRead | markRead | calState | permitRead | flagsRead | cellStatus => exact .refl _ s
  | markArm => exact sameBut_withMark s _
  | encoderRead | calRead | capabilityRead | stationRead | groupRead | windowRead | ringRead =>
    simp only [perform, reqEncoderRead, reqCalRead, reqCapabilityRead, reqStationRead, reqGroupRead, reqWindowRead,
      reqRingRead]
    split <;> exact .refl _ s
  | encoderCounters =>
    simp only [perform, reqEncoderCounters]
    split
    · exact .refl _ s
    · exact sameBut_withUnit s _ _
  | linkEnable => exact sameBut_reqLinkEnable s body
  | linkRestart => exact sameBut_reqLinkRestart s body
  | linkStatus | linkCounters =>
    simp only [perform, reqLinkStatus, reqLinkCounters]
    split
    · exact .refl _ s
    · exact sameBut_withLink s _ _
  | calWrite => exact sameBut_reqCalWrite s body
  | calLock => exact sameBut_reqCalLock s body
  | stationSet => exact sameBut_reqStationSet s body
  | groupDefine => exact sameBut_reqGroupDefine s body
  | groupTune => exact sameBut_reqGroupTune s body
  | engage => exact sameBut_reqEngage s body
  | release => exact sameBut_reqRelease s body
  | disband => exact sameBut_reqDisband s body
  | segmentQueue => exact sameBut_reqSegmentQueue s body
  | segmentFlush | segmentCancel =>
    simp only [perform, reqSegmentFlush, reqSegmentCancel]
    split
    · exact .refl _ s
    · exact sameBut_withRoad s _
  | scheduleRead => exact sameBut_withScheds s _
  | permitTime =>
    simp only [perform, reqPermitTime]
    split
    · exact .refl _ s
    · exact sameBut_withPermit s _
  | permitGrant => exact sameBut_reqPermitGrant s body
  | permitRenew => exact sameBut_reqPermitRenew s body
  | filterSet =>
    simp only [perform, reqFilterSet]
    split
    · exact .refl _ s
    · exact sameBut_setFilter s _ _
  | sourceEnable =>
    simp only [perform, reqSourceEnable]
    split
    · exact .refl _ s
    · exact sameBut_setSource s _ _ _
  | flagsClear =>
    simp only [perform, reqFlagsClear]
    split
    · exact .refl _ s
    · exact sameBut_clearFlags s _ _
  | forceSet | noticeMask =>
    simp only [perform, reqForceSet, reqNoticeMask]
    split
    · exact .refl _ s
    · exact sameBut_withMon s _ rfl rfl rfl rfl
  | excursionFetch =>
    simp only [perform, reqExcursionFetch]
    split
    · exact .refl _ s
    · exact sameBut_withExc s _
  | windowOpen => exact sameBut_reqWindowOpen s body
  | windowClose => exact sameBut_reqWindowClose s body
  | ringFreeze | ringUnfreeze =>
    simp only [perform, reqRingFreeze, reqRingUnfreeze]
    split
    · exact .refl _ s
    · exact sameBut_withRing s _ _
  | portCounters => exact sameBut_withPort s _
  | resetPrepare => exact .iteFst (sameBut_withPort s _) (.refl _ s)
  | resetExecute => exact .iteFst (.refl _ s) (.refl _ s)

end Requests

/-! ## Events -/

/-- The effect of a command before the end of its event (R143). -/
def effect (i : Instr) (s : State) : State :=
  match i with
  | .coldReset lines => coldReset lines s
  | .portReset => if s.port.resetOrdered && s.port.replyDone s.clock then portReset s else s
  | .markInEdge => markEdge s
  | .encoderTransition n a b frac => takeSample n a b (s.clock * 32 + frac.val) s
  | .indexEvent n =>
    s.withUnit n ((s.units.get n).indexEvent (s.settings.get n).checkIndex (s.cal.records.get n).valid (s.divisor n)
      (s.settings.get n).tolerance)
  | .estimationIntervalExpiry n => if (s.units.get n).estimateDue ≤ s.clock then estimationExpiry n s else s
  | .dlkFrameReceived n f => receiveDlk n f s
  | .quietTimerExpiry n =>
    if (s.links.get n).state = .quiet ∧ dueAt s.clock (s.links.get n).quietDue then
      s.withLink n ((s.links.get n).quietEnd s.clock (s.settings.get n)) else s
  | .offerTimerExpiry n =>
    if dueAt s.clock (s.links.get n).offerDue then
      s.withLink n ((s.links.get n).offerTick s.clock (s.settings.get n)) else s
  | .negotiationTimerExpiry n =>
    if (s.links.get n).state.settling ∧ dueAt s.clock (s.links.get n).negotiationDue then
      s.withLink n ({ s.links.get n with
        negotiationFailures := satInc (s.links.get n).negotiationFailures }.toQuiet s.clock) else s
  | .updateTimerExpiry n =>
    if (s.links.get n).state = .up ∧ dueAt s.clock (s.links.get n).updateDue then updateExpiry n s else s
  | .calWriteCompletion =>
    match s.cal.op with
    | some { kind := .write k, station := n, acceptedAt := _, due := d } =>
      if d ≤ s.clock then completeWrite n k s else s
    | some { kind := .lock, station := _, acceptedAt := _, due := _ } | none => s
  | .calLockCompletion =>
    match s.cal.op with
    | some { kind := .lock, station := n, acceptedAt := _, due := d } => if d ≤ s.clock then completeLock n s else s
    | some { kind := .write _, station := _, acceptedAt := _, due := _ } | none => s
  | .periodTimerExpiry g => if dueAt s.clock (s.groups.get g).periodDue then runPeriod g s else s
  | .engageTimerExpiry g =>
    if (s.groups.get g).state = .engaging ∧ dueAt s.clock (s.groups.get g).engageDue then engageFailed g s else s
  | .segmentActivation => runActivations s
  | .blendStep g =>
    if dueAt s.clock (s.scheds.get g).blendDue then s.withSched g (s.scheds.get g).blendStep else s
  | .durationEnd g => if (s.scheds.get g).endDue s.clock then enterDry g s else s
  | .permitTimerExpiry => if dueAt s.clock s.permit.due then permitExpired s else s
  | .filterTimerExpiry i =>
    if (s.mon.flags.get i).expiryDue s.clock then s.withMon (s.mon.mapFlag i Filtered.expire) else s
  | .tripInChange level => s.withMon { s.mon with tripIn := level }
  | .estopInChange asserted =>
    s.withMon { s.mon with estopIn := asserted, estop := s.mon.estop || (asserted && !s.mon.estopIn) }
  | .mpFrameComplete check2 => if s.port.awaitsLast then receiveByte check2 false s else s
  | .gapTimerExpiry => if dueAt s.clock s.port.gapDue then s.withPort s.port.abandon else s
  | .replySent => if s.port.replyDone s.clock then endReply s else s
  | .mpByteReceived b lineError => receiveByte b lineError s
  | i =>
    match i.frame? with
    | some f => acceptFrame f s
    | none => s

/-- Every command is its effect and the end of the event. -/
theorem exec_effect (i : Instr) (s : State) : exec i s = .next (settle (effect i s)) := by
  cases i <;> rfl

/-- A row that carries a frame hands it to the port. -/
theorem effect_frame (i : Instr) (f : Frame) (s : State) (h : i.frame? = some f) : effect i s = acceptFrame f s := by
  have framed := exec_frame i f s h
  cases i <;> simp only [Instr.frame?, Option.some.injEq, reduceCtorEq] at h <;> subst h <;> rfl

/-- The blocks that an event can change, where it is neither a reset nor the port's. -/
def eventBlocks : Instr → List Block
  | .markInEdge => [.mark, .road, .scheds]
  | .encoderTransition .. => [.units, .free]
  | .indexEvent _ | .estimationIntervalExpiry _ => [.units]
  | .dlkFrameReceived .. | .updateTimerExpiry _ => .links :: claimBlocks
  | .quietTimerExpiry _ | .offerTimerExpiry _ | .negotiationTimerExpiry _ => [.links]
  | .calWriteCompletion => [.cal, .units]
  | .calLockCompletion => [.cal]
  | .periodTimerExpiry _ => .rings :: claimBlocks
  | .engageTimerExpiry _ => claimBlocks
  | .segmentActivation => [.road, .scheds]
  | .blendStep _ => [.scheds]
  | .durationEnd _ => [.scheds, .mon, .windows]
  | .permitTimerExpiry => .permit :: claimBlocks
  | .filterTimerExpiry _ => [.filters]
  | .tripInChange _ | .estopInChange _ => [.mon]
  | _ => []

section Events

variable (s : State)

theorem sameBut_takeSample (n : Station) (a b : Bool) (fine : Nat) :
    SameBut [.units, .free] s (takeSample n a b fine s) := by
  have unit (t : State) (u : EncoderUnit) : SameBut [.units, .free] t (t.withUnit n u) := sameBut_withUnit t n u
  have counted (t : State) (up : Bool) : SameBut [.units, .free] t (countEdge n up fine t) := by
    unfold countEdge
    exact .ite (.ite (unit _ _) ((unit _ _).trans (sameBut_withFree _ _))) (unit _ _)
  unfold takeSample
  exact .ite (.refl _ s) (.ite ((unit _ _).trans (unit _ _)) (.ite ((unit _ _).trans (counted _ _)) (unit _ _)))

theorem sameBut_judgeMissing (n : Station) : SameBut (.links :: claimBlocks) s (judgeMissing n s) := by
  unfold judgeMissing
  exact .ite ((sameBut_withLink s n _).trans ((sameBut_claimStation _ n).mono (by decide))) (sameBut_withLink s n _)

theorem sameBut_spoiledInUp (n : Station) : SameBut (.links :: claimBlocks) s (spoiledInUp n s) := by
  unfold spoiledInUp
  split
  · exact .refl _ s
  · exact sameBut_judgeMissing s n

theorem sameBut_statusInUp (n : Station) (f : StatusFrame) :
    SameBut (.links :: claimBlocks) s (statusInUp n f s) := by
  unfold statusInUp
  dsimp only
  split
  · exact .refl _ s
  · exact .ite (.ite (sameBut_withLink s n _)
      ((sameBut_withLink s n _).trans ((sameBut_claimStation _ n).mono (by decide)))) (sameBut_judgeMissing s n)

theorem sameBut_receiveDlk (n : Station) (f : DlkFrame) : SameBut (.links :: claimBlocks) s (receiveDlk n f s) := by
  unfold receiveDlk
  dsimp only
  split
  case h_1 | h_2 | h_3 | h_4 => exact .refl _ s
  case h_5 => exact (sameBut_withLink s n _).trans (sameBut_spoiledInUp _ n)
  case h_6 => exact sameBut_spoiledInUp s n
  case h_7 => exact sameBut_statusInUp s n _
  all_goals exact sameBut_withLink s n _

theorem sameBut_updateExpiry (n : Station) : SameBut (.links :: claimBlocks) s (updateExpiry n s) := by
  have sent (t : State) : SameBut (.links :: claimBlocks) t (sendFrame n t) := sameBut_withLink t n _
  unfold updateExpiry
  split
  · exact sent s
  · exact .ite ((sameBut_judgeMissing s n).trans (sent _)) (sameBut_judgeMissing s n)

theorem sameBut_stageNine (g : GroupId) (t : Tuning) (full : Bool) (b : PeriodBase) :
    SameBut claimBlocks s (stageNine g t full b s) := by
  have group (u : State) (x : Group) : SameBut claimBlocks u (u.withGroup g x) := sameBut_withGroup u g x
  unfold stageNine
  dsimp only
  split
  · unfold judgeEngaging
    exact (group s _).trans (.ite (group _ _) (group _ _))
  · unfold judgeLocked
    exact (group s _).trans (.ite (.refl _ _) (((group _ _).trans (group _ _)).trans (sameBut_withExc _ _)))
  · unfold judgeSlipping
    exact (group s _).trans (.ite ((((group _ _).trans (sameBut_closeExcursion _ g _)).trans (group _ _)).trans
      (sameBut_windowCause _ g _ _)) (group _ _))
  all_goals exact group s _

theorem sameBut_runPeriod (g : GroupId) : SameBut (.rings :: claimBlocks) s (runPeriod g s) := by
  have ended (d : GroupDef) (e : RingEntry) (t : State) : SameBut (.rings :: claimBlocks) t (endPeriod g d e t) :=
    (sameBut_withRing t g _).trans (sameBut_withGroup _ g _)
  have staged (t : Tuning) (full : Bool) (b : PeriodBase) (u : State) :
      SameBut (.rings :: claimBlocks) u (stageNine g t full b u) := (sameBut_stageNine u g t full b).mono (by decide)
  have driving (d : GroupDef) : SameBut (.rings :: claimBlocks) s (drivingPeriod g d s) :=
    (((sameBut_withPosted s _).trans (sameBut_withGroup _ g _)).trans (staged _ _ _ _)).trans (ended _ _ _)
  have held (d : GroupDef) : SameBut (.rings :: claimBlocks) s (heldPeriod g d s) :=
    ((sameBut_postZero s g).trans (staged _ _ _ _)).trans (ended _ _ _)
  unfold runPeriod
  split
  case h_1 | h_2 | h_3 => exact driving _
  case h_4 => exact held _
  case h_5 => exact .refl _ s

theorem sameBut_engageFailed (g : GroupId) : SameBut claimBlocks s (engageFailed g s) := by
  unfold engageFailed
  exact ((sameBut_enterFree s g).trans (sameBut_writeClosed _ g _ _ _)).trans (sameBut_windowCause _ g _ _)

theorem sameBut_markEdge : SameBut [.mark, .road, .scheds] s (markEdge s) := by
  have mark (m : MarkCapture) : SameBut [.mark, .road, .scheds] s (s.withMark m) := sameBut_withMark s m
  unfold markEdge
  exact .ite (.ite (((mark _).trans (sameBut_withRoad _ _)).trans ((sameBut_runActivations _).mono (by decide)))
    ((mark _).trans (sameBut_withRoad _ _))) (mark _)

theorem sameBut_enterDry (g : GroupId) : SameBut [.scheds, .mon, .windows] s (enterDry g s) := by
  unfold enterDry
  exact ((sameBut_withSched s g _).trans (sameBut_withAlerts _ _)).trans (sameBut_windowCause _ g _ _)

theorem sameBut_permitExpired : SameBut (.permit :: claimBlocks) s (permitExpired s) := by
  unfold permitExpired
  exact ((sameBut_withPermit s _).trans (sameBut_withAlerts _ _)).trans ((sameBut_claimRemoved _ _).mono (by decide))

theorem sameBut_completeWrite (n : Station) (k : CalConstants) : SameBut [.cal, .units] s (completeWrite n k s) :=
  (sameBut_withCal s _).trans (sameBut_withUnit _ n _)

end Events

/-- An event of the message port, beside the rows that carry a frame. -/
def isPortEvent : Instr → Bool
  | .mpFrameComplete _ | .gapTimerExpiry | .replySent | .mpByteReceived _ _ => true
  | _ => false

/-- The end of a reset. -/
def isReset : Instr → Bool
  | .coldReset _ | .portReset => true
  | _ => false

/-- What an event leaves unchanged, where it is neither a reset nor the port's. -/
theorem sameBut_effect (i : Instr) (s : State) (hf : i.frame? = none) (hp : isPortEvent i = false)
    (hr : isReset i = false) : SameBut (eventBlocks i) s (effect i s) := by
  cases i with
  | coldReset | portReset => exact absurd hr (by simp [isReset])
  | mpFrameComplete | gapTimerExpiry | replySent | mpByteReceived => exact absurd hp (by simp [isPortEvent])
  | markInEdge => exact sameBut_markEdge s
  | encoderTransition => exact sameBut_takeSample s _ _ _ _
  | indexEvent => exact show SameBut [.units] s _ from sameBut_withUnit s _ _
  | estimationIntervalExpiry =>
    exact show SameBut [.units] s _ from .ite (sameBut_withUnit s _ _) (.refl _ s)
  | dlkFrameReceived => exact sameBut_receiveDlk s _ _
  | quietTimerExpiry | offerTimerExpiry | negotiationTimerExpiry =>
    exact show SameBut [.links] s _ from .ite (sameBut_withLink s _ _) (.refl _ s)
  | updateTimerExpiry => exact .ite (sameBut_updateExpiry s _) (.refl _ s)
  | calWriteCompletion =>
    unfold effect
    dsimp only
    split
    · exact .ite (sameBut_completeWrite s _ _) (.refl _ s)
    all_goals exact .refl _ s
  | calLockCompletion =>
    unfold effect
    dsimp only
    split
    · exact .ite (sameBut_withCal s _) (.refl _ s)
    all_goals exact .refl _ s
  | periodTimerExpiry => exact .ite (sameBut_runPeriod s _) (.refl _ s)
  | engageTimerExpiry => exact .ite (sameBut_engageFailed s _) (.refl _ s)
  | segmentActivation => exact sameBut_runActivations s
  | blendStep => exact show SameBut [.scheds] s _ from .ite (sameBut_withSched s _ _) (.refl _ s)
  | durationEnd => exact .ite (sameBut_enterDry s _) (.refl _ s)
  | permitTimerExpiry => exact .ite (sameBut_permitExpired s) (.refl _ s)
  | filterTimerExpiry =>
    exact show SameBut [.filters] s _ from .ite (sameBut_withFilters s _ _ _) (.refl _ s)
  | tripInChange | estopInChange =>
    exact show SameBut [.mon] s _ from sameBut_withMon s _ rfl rfl rfl rfl
  | _ => simp [Instr.frame?] at hf

end Sys2Proof.Machine
end

section
/-! SUPPORT. The shape of every proof that a step keeps an invariant: what must be shown of resets, requests, events and the end of an event. -/

set_option Elab.async false

namespace Sys2Proof.Machine

/-- A step is a command's effect and the end of its event, from the state but for the waiting commands and the counter of
free values, or one tick of the cell clock. -/
theorem step_cases {s t : State} (h : step s = .next t) :
    (∃ i q k, t = settle (effect i ((s.withPending q).withFree k))) ∨ t = tick s := by
  have run (i : Instr) (q : List Instr) (k : Nat) (hx : exec i ((s.withPending q).withFree k) = .next t) :
      ∃ i q k, t = settle (effect i ((s.withPending q).withFree k)) := by
    rw [exec_effect] at hx
    exact ⟨i, q, k, (Host.Outcome.next.inj hx).symm⟩
  unfold step at h
  split at h
  case h_1 c rest _ => exact .inl (run c rest s.freeCount h)
  case h_2 =>
    split at h
    case h_1 i u hn =>
      unfold nextOwnEvent at hn
      split at hn
      · cases hn
      · cases hn
        exact .inl (run i s.pending s.freeCount h)
      · cases hn
        exact .inl (run _ s.pending (s.freeCount + 1) h)
    case h_2 => exact .inr (Host.Outcome.next.inj h).symm

/-- Two lists of blocks share one. -/
def meets (as bs : List Block) : Bool := as.any fun a => bs.contains a

theorem meets_eq_false {as bs : List Block} (h : meets as bs = false) : ∀ b ∈ bs, b ∉ as := by
  intro b hb ha
  have shared : meets as bs = true := List.any_eq_true.mpr ⟨b, ha, List.contains_iff_mem.mpr hb⟩
  rw [h] at shared
  cases shared

/-- An invariant of the blocks of a list, none of them the clock, the port, the queue of commands, the counter of free
values or the monitor's latches: resets, the requests and events that can change one of its blocks, and the end of an
event keep it. -/
structure Kept (R : List Block) (Inv : State → Prop) : Prop where
  inner : ∀ b ∈ R, b ∉ [Block.clock, .mon, .port, .pending, .free]
  reads : ∀ s t, (∀ b ∈ R, b.Same s t) → Inv s → Inv t
  reset : ∀ s lines alerts, Inv s → Inv (State.base s.cal.records lines alerts s.pending s.freeCount)
  request : ∀ k held body s, meets (requestBlocks k) R = true → Inv s → Inv (perform k held body s).1
  event : ∀ i s, meets (eventBlocks i) R = true → Inv s → Inv (effect i s)
  settles : ∀ s, Inv s → Inv (settle s)

theorem ite_keeps {α : Type} {Inv : α → Prop} {s t : α} {c : Prop} [Decidable c] (ht : Inv t) (hs : Inv s) :
    Inv (if c then t else s) := by
  split
  · exact ht
  · exact hs

/-- An event that can change a block at all is neither a reset nor the port's. -/
theorem sameBut_effect_of_meets {i : Instr} {R : List Block} (h : meets (eventBlocks i) R = true) (s : State) :
    SameBut (eventBlocks i) s (effect i s) := by
  have own : i.frame? = none ∧ isPortEvent i = false ∧ isReset i = false := by
    cases i with
    | markInEdge | encoderTransition | indexEvent | estimationIntervalExpiry | dlkFrameReceived | updateTimerExpiry
    | quietTimerExpiry | offerTimerExpiry | negotiationTimerExpiry | calWriteCompletion | calLockCompletion
    | periodTimerExpiry | engageTimerExpiry | segmentActivation | blendStep | durationEnd | permitTimerExpiry
    | filterTimerExpiry | tripInChange | estopInChange => exact ⟨rfl, rfl, rfl⟩
    | _ => cases h
  exact sameBut_effect i s own.1 own.2.1 own.2.2

namespace Kept

variable {R : List Block} {Inv : State → Prop} (K : Kept R Inv)
include K

/-- A change of other blocks. -/
theorem of_sameBut {bs : List Block} {s t : State} (h : SameBut bs s t) (hm : meets bs R = false) (hs : Inv s) : Inv t :=
  K.reads s t (fun b hb => h b (meets_eq_false hm b hb)) hs

/-- A change of blocks that no such invariant reads. -/
theorem of_outer {s t : State} (h : SameBut [.clock, .mon, .port, .pending, .free] s t) (hs : Inv s) : Inv t :=
  K.reads s t (fun b hb => h b (K.inner b hb)) hs

theorem perform_keeps (k : ReqKind) (held : Bool) (body : List Byte) {s : State} (hs : Inv s) :
    Inv (perform k held body s).1 := by
  cases h : meets (requestBlocks k) R with
  | true => exact K.request k held body s h hs
  | false => exact K.of_sameBut (sameBut_perform s body k held) h hs

theorem takeRequest_keeps (f : Frame) {s : State} (hs : Inv s) : Inv (takeRequest f s) := by
  have taking : Inv s.taking := K.of_outer (sameBut_withPort s _) hs
  have examined : Inv (examine f s.port.prepared s.taking).1 := by
    unfold examine
    split
    · exact taking
    · split
      · exact K.perform_keeps _ _ _ taking
      · exact taking
  exact K.of_outer (sameBut_withPort _ _) examined

theorem takeNext_keeps {s : State} (hs : Inv s) : Inv (takeNext s) := by
  unfold takeNext
  split
  · exact K.takeRequest_keeps _ (K.of_outer (sameBut_withPort s _) hs)
  · exact hs

theorem acceptFrame_keeps (f : Frame) {s : State} (hs : Inv s) : Inv (acceptFrame f s) := by
  unfold acceptFrame
  split
  · exact K.takeNext_keeps (K.of_outer (sameBut_withPort s _) hs)
  · exact K.of_outer (sameBut_withPort s _) hs

theorem judgeFrame_keeps (bytes : List Byte) {s : State} (hs : Inv s) : Inv (judgeFrame bytes s) := by
  have hunting : Inv (s.withPort s.port.hunt) := K.of_outer (sameBut_withPort s _) hs
  unfold judgeFrame
  dsimp only
  split
  · exact K.acceptFrame_keeps _ hunting
  · exact K.of_outer ((sameBut_withPort _ _).trans (sameBut_withAlerts _ _)) hunting

theorem receiveByte_keeps (b : Byte) (lineError : Bool) {s : State} (hs : Inv s) : Inv (receiveByte b lineError s) := by
  have port (p : Port) : Inv (s.withPort p) := K.of_outer (sameBut_withPort s p) hs
  unfold receiveByte
  split
  · split
    · exact port _
    · exact hs
  · split
    · exact port _
    · dsimp only
      split
      · exact port _
      · split
        · exact K.judgeFrame_keeps _ hs
        · exact port _

theorem endReply_keeps {s : State} (hs : Inv s) : Inv (endReply s) := by
  unfold endReply
  split
  · exact K.reset s _ _ hs
  · exact K.takeNext_keeps (K.of_outer (sameBut_withPort s _) hs)

theorem effect_keeps (i : Instr) {s : State} (hs : Inv s) : Inv (effect i s) := by
  cases hf : i.frame? with
  | some f =>
    rw [effect_frame i f s hf]
    exact K.acceptFrame_keeps f hs
  | none =>
    cases hm : meets (eventBlocks i) R with
    | true => exact K.event i s hm hs
    | false =>
      cases i with
      | coldReset lines => exact K.reset s lines _ hs
      | portReset => exact ite_keeps (K.reset s _ _ hs) hs
      | mpFrameComplete b => exact ite_keeps (K.receiveByte_keeps b false hs) hs
      | gapTimerExpiry => exact ite_keeps (K.of_outer (sameBut_withPort s _) hs) hs
      | replySent => exact ite_keeps (K.endReply_keeps hs) hs
      | mpByteReceived b e => exact K.receiveByte_keeps b e hs
      | _ => exact K.of_sameBut (sameBut_effect _ s hf rfl rfl) hm hs

/-- The invariant holds after every step from a state in which it holds. -/
theorem step_keeps (s t : State) (hs : Inv s) (h : step s = .next t) : Inv t := by
  obtain ⟨i, q, k, rfl⟩ | rfl := step_cases h
  · have queued : Inv ((s.withPending q).withFree k) :=
      K.of_outer ((sameBut_withPending s q).trans (sameBut_withFree _ k)) hs
    exact K.settles _ (K.effect_keeps i queued)
  · exact K.of_outer (sameBut_withClock s _) hs

/-- An invariant that is kept in company of another one. -/
theorem given {S : List Block} {J : State → Prop}
    (inner : ∀ b ∈ S, b ∉ [Block.clock, .mon, .port, .pending, .free])
    (reads : ∀ s t, (∀ b ∈ S, b.Same s t) → J s → J t)
    (reset : ∀ s lines alerts, Inv s → J s → J (State.base s.cal.records lines alerts s.pending s.freeCount))
    (request : ∀ k held body s, meets (requestBlocks k) S = true → Inv s → J s → J (perform k held body s).1)
    (event : ∀ i s, meets (eventBlocks i) S = true → Inv s → J s → J (effect i s))
    (settles : ∀ s, Inv s → J s → J (settle s)) : Kept (R ++ S) (fun s => Inv s ∧ J s) := by
  have same {bs : List Block} {s t : State} (h : SameBut bs s t) (hm : meets bs S = false) (hs : J s) : J t :=
    reads s t (fun b hb => h b (meets_eq_false hm b hb)) hs
  refine ⟨fun b hb => (List.mem_append.mp hb).elim (K.inner b) (inner b), fun s t h hs => ?_, fun s l a hs => ?_,
    fun k held body s _ hs => ?_, fun i s hm hs => ?_, fun s hs => ?_⟩
  · exact ⟨K.reads s t (fun b hb => h b (List.mem_append_left _ hb)) hs.1,
      reads s t (fun b hb => h b (List.mem_append_right _ hb)) hs.2⟩
  · exact ⟨K.reset s l a hs.1, reset s l a hs.1 hs.2⟩
  · refine ⟨K.perform_keeps k held body hs.1, ?_⟩
    cases h : meets (requestBlocks k) S with
    | true => exact request k held body s h hs.1 hs.2
    | false => exact same (sameBut_perform s body k held) h hs.2
  · refine ⟨K.effect_keeps i hs.1, ?_⟩
    cases h : meets (eventBlocks i) S with
    | true => exact event i s h hs.1 hs.2
    | false => exact same (sameBut_effect_of_meets hm s) h hs.2
  · exact ⟨K.settles s hs.1, settles s hs.1 hs.2⟩

end Kept

end Sys2Proof.Machine
end

section
/-! SUPPORT. What the end of an event leaves: a settled state (R143, R155, R159), and with TRIP_OUT asserted no permit and no running group (R157); the statements on them. -/

set_option Elab.async false

namespace Sys2Proof.Machine

/-! ## Settled states (R143, R155, R159) -/

/-- Where the flags hold their conditions, forming the outputs settles the state. -/
theorem settled_driveLines (s : State) (h : ∀ i, (s.mon.flags.get i).level = s.condition i) : Settled (driveLines s) :=
  ⟨fun i _ => (h i).trans (condition_withMon s s.mon.driveOutputs rfl i).symm, rfl, rfl⟩

theorem settled_driveLines_handConditions (s : State) : Settled (driveLines (handConditions s)) :=
  settled_driveLines _ fun i => (handConditions_level s i).trans (condition_handConditions s i).symm

/-- Every event ends in a settled state. -/
theorem settled_settle (s : State) : Settled (settle s) := by
  unfold settle
  exact ite_keeps (settled_driveLines_handConditions _) (settled_driveLines_handConditions s)

/-- A tick of the cell clock changes no condition. -/
theorem settled_tick (s : State) (h : Settled s) : Settled (tick s) := by
  obtain ⟨levels, outputs⟩ := h
  have same (i : FilteredId) : (tick s).condition i = s.condition i := by cases i <;> rfl
  exact ⟨fun i hi => (levels i hi).trans (same i).symm, outputs⟩

/-- Settles O4: every event ends settled, whatever its effect, and a tick changes nothing that is read. -/
theorem stepKeepsSettled : Obligations.StepKeepsSettled := by
  intro s t hs h
  obtain ⟨i, q, k, rfl⟩ | rfl := step_cases h
  · exact settled_settle _
  · exact settled_tick s hs

end Sys2Proof.Machine
end

section
/-! SUPPORT. What claims, the trip event, records and window causes leave of every block (R64, R76, R77, R80, R156, R164 to R172), and the statements on them. -/

set_option Elab.async false

namespace Sys2Proof.Machine

theorem satInc_eq_oneMore (n : Nat) : satInc n = oneMore n := by
  unfold satInc oneMore
  split <;> omega

/-! ## Posted demands (R64) -/

theorem postZeroTo_get (ms : List Member) (p : Quad Int) (n : Station) :
    (postZeroTo ms p).get n = if ms.any (fun m => m.station == n) then 0 else p.get n := by
  unfold postZeroTo
  induction ms generalizing p with
  | nil => rfl
  | cons m ms ih =>
    rw [List.foldl_cons, ih, Quad.get_set, List.any_cons]
    by_cases h : n = m.station
    · simp [h]
    · simp [h, Ne.symm h]

theorem postZeroTo_eq_zeroedFor (ms : List Member) (p : Quad Int) : postZeroTo ms p = zeroedFor ms p :=
  Quad.ext_get _ _ fun n => by rw [postZeroTo_get, zeroedFor, Quad.get_ofFn]

theorem postZero_eq (g : GroupId) (s : State) :
    postZero g s = { s with posted := zeroedFor (s.groups.get g).members s.posted } := by
  rw [postZero, postZeroTo_eq_zeroedFor]
  rfl

/-! ## Records (R163 to R167) -/

theorem logRecord_withGroup (r : ExcRecord) (s : State) (g : GroupId) (x : Group) :
    logRecord r (s.withGroup g x) = (logRecord r s).withGroup g x := by
  by_cases h : s.exc.log.length < Config.logCapacity <;> simp [logRecord, h, State.withGroup, State.withExc, State.withMon]

theorem logRecord_room (r : ExcRecord) (s : State) (h : s.exc.log.length < 32) :
    logRecord r s = { s with exc := { s.exc with log := s.exc.log ++ [r] } } := by
  have room : s.exc.log.length < Config.logCapacity := h
  rw [logRecord, if_pos room]
  rfl

theorem logRecord_full (r : ExcRecord) (s : State) (h : 32 ≤ s.exc.log.length) :
    logRecord r s = { s with exc := { s.exc with lost := oneMore s.exc.lost },
                             mon := { s.mon with alerts := { s.mon.alerts with logLost := true } } } := by
  have full : ¬ s.exc.log.length < Config.logCapacity := Nat.not_lt.mpr h
  rw [logRecord, if_neg full, satInc_eq_oneMore]
  rfl

theorem logRecord_groups (r : ExcRecord) (s : State) : (logRecord r s).groups = s.groups :=
  sameBut_logRecord s r (bs := [.exc, .mon]) (by decide) .groups (by decide)

theorem logRecord_posted (r : ExcRecord) (s : State) : (logRecord r s).posted = s.posted :=
  sameBut_logRecord s r (bs := [.exc, .mon]) (by decide) .posted (by decide)

theorem logRecord_rings (r : ExcRecord) (s : State) : (logRecord r s).rings = s.rings :=
  sameBut_logRecord s r (bs := [.exc, .mon]) (by decide) .rings (by decide)

/-- A group whose open slot is empty already. -/
theorem closeExcursion_empty (g : GroupId) (oc : ExcOutcome) (s : State) (h : (s.groups.get g).openSlip = none) :
    closeExcursion g oc s = (s.withGroup g { s.groups.get g with openSlip := none }, none) := by
  have unchanged : ({ s.groups.get g with openSlip := none } : Group) = s.groups.get g := by rw [← h]
  rw [closeExcursion_none g oc s h, unchanged, State.withGroup, Quad.set_get]

theorem closeExcursion_open (g : GroupId) (oc : ExcOutcome) (s : State) (o : OpenSlip)
    (h : (s.groups.get g).openSlip = some o) :
    closeExcursion g oc s =
      ((logRecord (o.closed g s.clock oc) s).withGroup g { s.groups.get g with openSlip := none },
        some (o.closed g s.clock oc)) := by
  rw [closeExcursion_some g oc s o h, logRecord_withGroup]
  rfl

/-! ## HELD claims (R76, R77, R134) -/

/-- A group in a new state, and 0 posted for the members it had. -/
def withGroupIdle (g : GroupId) (x : Group) (ms : List Member) (u : State) : State :=
  { u with groups := u.groups.set g x, posted := zeroedFor ms u.posted }

theorem claimHeld_noRecord (g : GroupId) (s : State) (hd : (s.groups.get g).state.driving = true)
    (ho : (s.groups.get g).openSlip = none) :
    claimHeld g s = windowCause g none (some .held)
      (withGroupIdle g (s.groups.get g).heldBy (s.groups.get g).members s) := by
  rw [claimHeld, if_pos hd, closeExcursion_empty g _ s ho]
  simp only [postZero_eq, State.withGroup, Quad.get_set_self, Quad.set_set, withGroupIdle]
  rfl

theorem claimHeld_record (g : GroupId) (s : State) (hd : (s.groups.get g).state.driving = true) (o : OpenSlip)
    (ho : (s.groups.get g).openSlip = some o) :
    claimHeld g s = windowCause g (some (o.closed g s.clock .held)) (some .held)
      (withGroupIdle g (s.groups.get g).heldBy (s.groups.get g).members (logRecord (o.closed g s.clock .held) s)) := by
  rw [claimHeld, if_pos hd, closeExcursion_open g _ s o ho]
  simp only [postZero_eq, State.withGroup, Quad.get_set_self, Quad.set_set, withGroupIdle]
  rfl

/-- Whatever its record, a HELD claim leaves a driving group as R77 says and posts 0 for its members. -/
theorem claimHeld_groups (g : GroupId) (s : State) (hd : (s.groups.get g).state.driving = true) :
    (claimHeld g s).groups = s.groups.set g (s.groups.get g).heldBy
      ∧ (claimHeld g s).posted = zeroedFor (s.groups.get g).members s.posted := by
  cases ho : (s.groups.get g).openSlip with
  | none =>
    rw [claimHeld_noRecord g s hd ho]
    obtain ⟨w, hw⟩ := windowCause_frame g none (some .held)
      (withGroupIdle g (s.groups.get g).heldBy (s.groups.get g).members s)
    rw [hw]
    exact ⟨rfl, rfl⟩
  | some o =>
    rw [claimHeld_record g s hd o ho]
    obtain ⟨w, hw⟩ := windowCause_frame g (some (o.closed g s.clock .held)) (some .held)
      (withGroupIdle g (s.groups.get g).heldBy (s.groups.get g).members (logRecord (o.closed g s.clock .held) s))
    rw [hw]
    simp [withGroupIdle, logRecord_groups, logRecord_posted]

/-! ## The group of a station (R62) -/

theorem hasMember_of_defn_none {x : Group} (h : x.defn = none) (n : Station) : x.hasMember n = false := by
  simp [Group.hasMember, Group.members, h]

/-- Only a defined group has members. -/
theorem MembersApart.defined_of_hasMember {s : State} (h : MembersApart s) {g : GroupId} {n : Station}
    (hm : (s.groups.get g).hasMember n = true) : (s.groups.get g).state ≠ .undefined := by
  obtain ⟨defined, _, _⟩ := h
  apply (defined g (mem_allFour g)).mp
  cases hd : (s.groups.get g).defn with
  | none => simp [hasMember_of_defn_none hd] at hm
  | some d => rfl

theorem groupOf_eq_none_iff (s : State) (n : Station) :
    s.groupOf n = none ↔ s.memberOf n (· != .undefined) = false := by
  simp [State.groupOf, State.memberOf, List.find?_eq_none]

theorem groupOf_some {s : State} {n : Station} {g : GroupId} (h : s.groupOf n = some g) :
    (s.groups.get g).state ≠ .undefined ∧ (s.groups.get g).hasMember n = true := by
  have found := List.find?_some h
  simpa using found

/-- A station's group is the one that has it as a member. -/
theorem MembersApart.groupOf_eq {s : State} (h : MembersApart s) {n : Station} {g : GroupId}
    (hm : (s.groups.get g).hasMember n = true) : s.groupOf n = some g := by
  cases ho : s.groupOf n with
  | none =>
    have passed := List.find?_eq_none.mp ho g (mem_allFour g)
    simp [h.defined_of_hasMember hm, hm] at passed
  | some k =>
    obtain ⟨_, hk⟩ := groupOf_some ho
    obtain ⟨_, _, apart⟩ := h
    by_cases hgk : g = k
    · rw [hgk]
    · exact absurd ⟨hm, hk⟩ (apart g (mem_allFour g) k (mem_allFour k) hgk n (mem_allFour n))

theorem claimStation_member {s : State} (h : MembersApart s) {n : Station} {g : GroupId}
    (hm : (s.groups.get g).hasMember n = true) : claimStation n s = claimHeld g s := by
  simp [claimStation, h.groupOf_eq hm]

theorem claimStation_none {s : State} {n : Station} (h : s.memberOf n (· != .undefined) = false) :
    claimStation n s = s := by
  simp [claimStation, (groupOf_eq_none_iff s n).mpr h]

/-- A claim changes no group's member list. -/
theorem claimHeld_members (g : GroupId) (s : State) (h : GroupId) :
    ((claimHeld g s).groups.get h).members = (s.groups.get h).members := by
  cases hd : (s.groups.get g).state.driving with
  | false => rw [claimHeld_idle g s hd]
  | true =>
    obtain ⟨groups, _⟩ := claimHeld_groups g s hd
    rw [groups, Quad.get_set]
    split
    · next heq =>
      rw [heq]
      rfl
    · rfl

/-- The claims of removed permits ask each group for the members it had before them all; a claim on an UNDEFINED group
does nothing, so that they need not ask for its state. -/
theorem claimRemoved_eq (removed : BitVec 4) (s : State) :
    claimRemoved removed s = allFour.foldl (fun t g =>
      if (s.groups.get g).members.any (fun m => removed.getLsbD m.station.val) then claimHeld g t else t) s := by
  have fold (gs : List GroupId) (t : State) (ht : ∀ h, (t.groups.get h).members = (s.groups.get h).members) :
      gs.foldl (fun t g => if (t.groups.get g).state != .undefined
        && (t.groups.get g).members.any (fun m => removed.getLsbD m.station.val) then claimHeld g t else t) t
      = gs.foldl (fun t g =>
        if (s.groups.get g).members.any (fun m => removed.getLsbD m.station.val) then claimHeld g t else t) t := by
    induction gs generalizing t with
    | nil => rfl
    | cons g gs ih =>
      have undefined_claim : (t.groups.get g).state = .undefined → claimHeld g t = t := fun hu =>
        claimHeld_idle g t (by rw [hu]; rfl)
      have same (c : Bool) : (if (t.groups.get g).state != .undefined && c then claimHeld g t else t)
          = if c then claimHeld g t else t := by
        by_cases hu : (t.groups.get g).state = .undefined
        · simp [hu, undefined_claim hu]
        · simp [hu]
      rw [List.foldl_cons, List.foldl_cons, ht g, same]
      apply ih
      split
      · exact fun h => (claimHeld_members g t h).trans (ht h)
      · exact ht
  exact fold allFour s fun _ => rfl

/-- Settles O17, from what a claim makes of a group with and without an open record. -/
theorem heldClaims : Obligations.HeldClaims := by
  refine ⟨fun s g => ⟨claimHeld_idle g s, fun hd ho => ?_, fun hd o ho => ?_⟩,
    fun s n g h _ hm => claimStation_member h hm, fun s n h => claimStation_none h,
    fun s removed => claimRemoved_eq removed s⟩
  · exact claimHeld_noRecord g s hd ho
  · have after := claimHeld_record g s hd o ho
    rwa [withGroupIdle, logRecord_posted] at after

/-! ## The trip event (R80, R137, R156) -/

/-- The group TRIPPED, its ring frozen, and 0 posted for its members. -/
def withGroupTripped (g : GroupId) (x : Group) (r : Ring) (u : State) : State :=
  { u with groups := u.groups.set g x.trippedBy, posted := zeroedFor x.members u.posted,
           rings := u.rings.set g { r with frozen := true } }

theorem tripGroup_still (g : GroupId) (s : State) (h : (s.groups.get g).state.running = false) : tripGroup g s = s := by
  simp [tripGroup, h]

/-- The trip event at a running group whose record is `r` and leaves `u`, the group's open slot empty. -/
theorem tripGroup_of_record (g : GroupId) (s u : State) (r : Option ExcRecord)
    (hr : (s.groups.get g).state.running = true)
    (hrec : tripRecord g s = (u.withGroup g { s.groups.get g with openSlip := none }, r)) :
    tripGroup g s = windowCause g r (some .tripped) (withGroupTripped g (s.groups.get g) (u.rings.get g) u) := by
  rw [tripGroup, if_pos hr, hrec]
  simp only [postZero_eq, State.withGroup, State.withRing, Quad.get_set_self, Quad.set_set, withGroupTripped]
  rfl

theorem withGroup_emptied (g : GroupId) (s u : State) (hu : u.groups = s.groups)
    (ho : (s.groups.get g).openSlip = none) : u.withGroup g { s.groups.get g with openSlip := none } = u := by
  have unchanged : ({ s.groups.get g with openSlip := none } : Group) = u.groups.get g := by rw [hu, ← ho]
  rw [unchanged, State.withGroup, Quad.set_get]

theorem tripRecord_open (g : GroupId) (s : State) (o : OpenSlip) (ho : (s.groups.get g).openSlip = some o) :
    tripRecord g s = ((logRecord (o.closed g s.clock .tripped) s).withGroup g
      { s.groups.get g with openSlip := none }, some (o.closed g s.clock .tripped)) := by
  rw [tripRecord, ho, ← closeExcursion_open g .tripped s o ho]

theorem tripRecord_written (g : GroupId) (s : State) (ho : (s.groups.get g).openSlip = none)
    (hst : (s.groups.get g).state = .locked ∨ (s.groups.get g).state = .engaging) :
    tripRecord g s = ((logRecord (s.writtenRecord g .trip s.clock .tripped) s.countedExcursion).withGroup g
      { s.groups.get g with openSlip := none }, some (s.writtenRecord g .trip s.clock .tripped)) := by
  rw [withGroup_emptied g s _ (logRecord_groups _ s.countedExcursion) ho, tripRecord, ho]
  rcases hst with h | h <;> rw [h] <;> rfl

theorem tripRecord_held (g : GroupId) (s : State) (ho : (s.groups.get g).openSlip = none)
    (hst : (s.groups.get g).state = .held) :
    tripRecord g s = (s.withGroup g { s.groups.get g with openSlip := none }, none) := by
  rw [withGroup_emptied g s s rfl ho, tripRecord, ho, hst]

/-- Settles O16, from the record that each running state gives. -/
theorem tripEventReachesEveryBlock : Obligations.TripEventReachesEveryBlock := by
  refine ⟨fun s => ?_, fun s g => ⟨tripGroup_still g s, fun hst ho => ?_, fun hst o ho => ?_, fun hst ho => ?_⟩⟩
  · rw [tripEvent, satInc_eq_oneMore]
    rfl
  · exact tripGroup_of_record g s s none (by rw [hst]; rfl) (tripRecord_held g s ho hst)
  · have after := tripGroup_of_record g s _ _ (by rw [hst]; rfl) (tripRecord_open g s o ho)
    rwa [withGroupTripped, logRecord_posted, logRecord_rings] at after
  · have running : (s.groups.get g).state.running = true := by rcases hst with h | h <;> rw [h] <;> rfl
    have after := tripGroup_of_record g s _ _ running (tripRecord_written g s ho hst)
    rwa [withGroupTripped, logRecord_posted, logRecord_rings] at after

/-! ## First causes (R172) -/

theorem windowCause_some (g : GroupId) (r : Option ExcRecord) (own : Option CauseKind) (s : State) (c : Cause)
    (h : (s.windows.get g).state = .openValid) (hc : firstCause (s.windows.get g).limit s.clock r own = some c) :
    windowCause g r own s
      = { s with windows := s.windows.set g { s.windows.get g with state := .openInvalid, cause := some c } } := by
  simp only [windowCause, h, if_true, hc]
  rfl

theorem windowCause_none (g : GroupId) (r : Option ExcRecord) (own : Option CauseKind) (s : State)
    (h : (s.windows.get g).state = .openValid) (hc : firstCause (s.windows.get g).limit s.clock r own = none) :
    windowCause g r own s = s := by
  simp only [windowCause, h, if_true, hc]

/-- An event without a record that gives a cause has its own kind alone. -/
theorem firstCause_own (limit : Nat) (now : CellTime) (r : Option ExcRecord) (own : Option CauseKind)
    (hr : ∀ x, r = some x → x.causeKind limit = none) :
    firstCause limit now r own = own.map fun k => { kind := k, at_ := now, seq := none } := by
  cases r with
  | none => rfl
  | some x => simp [firstCause, hr x rfl]

theorem windowCause_own (g : GroupId) (r : Option ExcRecord) (s : State) (k : CauseKind)
    (h : (s.windows.get g).state = .openValid)
    (hr : ∀ x, r = some x → x.causeKind (s.windows.get g).limit = none) :
    windowCause g r (some k) s = { s with windows := s.windows.set g { s.windows.get g with
      state := .openInvalid, cause := some { kind := k, at_ := s.clock, seq := none } } } :=
  windowCause_some g r (some k) s _ h (firstCause_own _ _ r (some k) hr)

theorem windowCause_noOwn (g : GroupId) (r : Option ExcRecord) (s : State)
    (h : (s.windows.get g).state = .openValid)
    (hr : ∀ x, r = some x → x.causeKind (s.windows.get g).limit = none) : windowCause g r none s = s :=
  windowCause_none g r none s h (firstCause_own _ _ r none hr)

/-- A record that gives a cause is the first cause of its event. -/
theorem windowCause_record (g : GroupId) (x : ExcRecord) (own : Option CauseKind) (s : State) (k : CauseKind)
    (h : (s.windows.get g).state = .openValid) (hk : x.causeKind (s.windows.get g).limit = some k) :
    windowCause g (some x) own s = { s with windows := s.windows.set g { s.windows.get g with
      state := .openInvalid, cause := some { kind := k, at_ := s.clock, seq := some x.seq } } } :=
  windowCause_some g (some x) own s _ h (by simp [firstCause, hk])

/-- Settles O18, by the room left in the log, and by the record's duration and outcome. -/
theorem excursionsAndFirstCauses : Obligations.ExcursionsAndFirstCauses := by
  refine ⟨fun s => ⟨fun _ _ _ => rfl, fun r => ⟨logRecord_room r s, logRecord_full r s⟩⟩,
    fun s g r own => ⟨windowCause_closed g r own s, fun h => ⟨?_, ?_, ?_⟩⟩⟩
  · rintro rfl
    cases own with
    | none => exact windowCause_noOwn g none s h nofun
    | some k => exact windowCause_own g none s k h nofun
  · rintro x rfl longer
    exact windowCause_record g x own s .duration h (by rw [ExcRecord.causeKind, if_pos longer])
  · rintro x rfl within
    have byOutcome (k : Option CauseKind) (hk : x.causeKind (s.windows.get g).limit = k) (y : ExcRecord)
        (hy : some x = some y) : y.causeKind (s.windows.get g).limit = k := by rwa [← Option.some.inj hy]
    cases ho : x.outcome with
    | held => exact windowCause_record g x own s .held h (by rw [ExcRecord.causeKind, if_neg within, ho])
    | tripped => exact windowCause_record g x own s .tripped h (by rw [ExcRecord.causeKind, if_neg within, ho])
    | timeout => exact windowCause_record g x own s .timeout h (by rw [ExcRecord.causeKind, if_neg within, ho])
    | recovered | released =>
      have noCause := byOutcome none (by rw [ExcRecord.causeKind, if_neg within, ho])
      cases own with
      | none => exact windowCause_noOwn g (some x) s h noCause
      | some k => exact windowCause_own g (some x) s k h noCause

end Sys2Proof.Machine
end

section
/-! SUPPORT. The flags as the monitor reads them (R142, R143, R155, R159): the level handed to a flag, the set flags by their numbers, and the 21 conditions; the statements on the end of an event and on the layouts. -/

set_option Elab.async false

namespace Sys2Proof.Machine

/-! ## Fields (R194) -/

theorem le_length (n v : Nat) : (le n v).length = n := by
  induction n generalizing v with
  | zero => rfl
  | succ n ih => simp [le, ih]

theorem le_getD (n v k : Nat) (hk : k < n) : (le n v).getD k 0#8 = BitVec.ofNat 8 (v / 256 ^ k) := by
  induction n generalizing v k with
  | zero => omega
  | succ n ih =>
    cases k with
    | zero => simp [le]
    | succ k =>
      rw [le, List.getD_cons_succ, ih _ _ (by omega), Nat.div_div_eq_div_mul, ← pow_succ']

/-- A signed field holds the residue of its value. -/
theorem leInt_eq (n : Nat) (v : Int) (lo : -(256 : Int) ^ n ≤ 2 * v) (hi : 2 * v < (256 : Int) ^ n) :
    leInt n v = le n (if 0 ≤ v then v.natAbs else 256 ^ n - v.natAbs) := by
  have whole : (((256 ^ n : Nat) : Int)) = (256 : Int) ^ n := by push_cast; rfl
  have positive : 0 < 256 ^ n := Nat.pow_pos (by decide)
  rw [leInt]
  congr 1
  split
  case isTrue nonneg =>
    have small : v.emod ((256 ^ n : Nat) : Int) = v := Int.emod_eq_of_lt nonneg (by omega)
    rw [small]
    omega
  case isFalse negative =>
    have wrapped : v.emod ((256 ^ n : Nat) : Int) = v + ((256 ^ n : Nat) : Int) := by
      have shifted := Int.emod_eq_of_lt (a := v + ((256 ^ n : Nat) : Int)) (b := ((256 ^ n : Nat) : Int))
        (by omega) (by omega)
      rw [← shifted]
      exact (Int.add_emod_right _ _).symm
    rw [wrapped]
    omega

theorem bitsToNat_testBit (bs : List Bool) (k : Nat) : (bitsToNat bs).testBit k = bs.getD k false := by
  induction bs generalizing k with
  | nil => simp [bitsToNat]
  | cons b bs ih =>
    have head : (if b then 1 else 0) + 2 * bitsToNat bs = Nat.bit b (bitsToNat bs) := by
      cases b <;> simp [Nat.bit, Nat.add_comm]
    rw [bitsToNat, head]
    cases k with
    | zero => simp
    | succ k => rw [Nat.testBit_bit_succ, ih, List.getD_cons_succ]

/-! ## The set flags by their numbers (R155, R159) -/

theorem filteredSet_iff (m : Monitor) (i : FilteredId) :
    m.filteredSet i = true ↔ (m.flags.get i).state = .latched
      ∨ (m.enabled.get i.kind = true ∧ m.times.get i.kind = 0 ∧ (m.flags.get i).level = true) := by
  simp [Monitor.filteredSet, Filtered.isSet, and_assoc]

theorem tripSet_iff (m : Monitor) :
    m.tripSet = true ↔ (∃ i, m.filteredSet i = true) ∨ m.estop = true ∨ m.forceTrip = true := by
  simp [Monitor.tripSet, mem_filteredIds, or_assoc]

theorem filteredIds_numbers : filteredIds.map flagNumber = List.range 21 := by decide

theorem flagList_length (m : Monitor) : m.flagList.length = 34 := rfl

theorem filteredIds_get (i : FilteredId) : filteredIds[flagNumber i]? = some i := by
  cases i with
  | overspeed n | encoder n | link n | mismatch n | sync n => revert n; decide
  | tripIn => rfl

/-- The first 21 flags are the filtered ones. -/
theorem flagList_filtered (m : Monitor) (i : FilteredId) : m.flagList.getD (flagNumber i) false = m.filteredSet i := by
  have inside : flagNumber i < (filteredIds.map m.filteredSet).length := by
    obtain ⟨h, _⟩ := List.getElem?_eq_some_iff.mp (filteredIds_get i)
    rwa [List.length_map]
  rw [Monitor.flagList]
  simp only [List.append_assoc]
  rw [List.getD_append _ _ _ _ inside, List.getD_eq_getElem?_getD, List.getElem?_map, filteredIds_get]
  rfl

theorem flagWord_getLsbD (m : Monitor) (k : Nat) (hk : k < 34) : m.flagWord.getLsbD k = m.flagList.getD k false := by
  rw [Monitor.flagWord, BitVec.getLsbD_ofNat, bitsToNat_testBit]
  simp [hk]

/-- ATTN_OUT's level: a set flag that is enabled in the notice mask (R159). -/
theorem attnLevel_iff (m : Monitor) :
    m.attnLevel = true ↔ ∃ k, k < 34 ∧ m.flagList.getD k false = true ∧ m.noticeMask.getLsbD k = true := by
  have differs : m.attnLevel = true ↔ ¬ (m.flagWord &&& m.noticeMask) = 0#34 := by simp [Monitor.attnLevel]
  have common (k : Nat) (hk : k < 34) : (m.flagWord &&& m.noticeMask).getLsbD k
      = (m.flagList.getD k false && m.noticeMask.getLsbD k) := by
    rw [BitVec.getLsbD_and, flagWord_getLsbD m k hk]
  rw [differs]
  constructor
  · intro h
    by_contra none_common
    refine h (BitVec.eq_of_getLsbD_eq fun k hk => ?_)
    rw [common k hk, BitVec.getLsbD_zero, Bool.eq_false_iff]
    exact fun both => none_common ⟨k, hk, (Bool.and_eq_true _ _).mp both⟩
  · rintro ⟨k, hk, set, enabled⟩ h
    have bit := common k hk
    rw [h, set, enabled, BitVec.getLsbD_zero] at bit
    cases bit

/-! ## The levels handed (R143, R145, R146, R149) -/

theorem hand_eq_takes (enabled : Bool) (time now : Nat) (level : Bool) (f : Filtered) :
    f.hand enabled time now level = f.takes enabled time now level := by
  obtain ⟨st, due, held⟩ := f
  cases enabled <;> cases st <;> cases level <;> cases held <;>
    simp [Filtered.hand, Filtered.takes, Filtered.appear, filterDue]

theorem handConditions_get (s : State) (i : FilteredId) :
    (handConditions s).mon.flags.get i
      = (s.mon.flags.get i).takes (s.mon.enabled.get i.kind) (s.mon.times.get i.kind) s.clock (s.condition i) := by
  rw [← hand_eq_takes]
  exact FilteredFlags.get_mapIds _ _ i

/-! ## The 21 conditions (R14, R17, R38, R39, R104, R142) -/

theorem memberOf_iff (s : State) (n : Station) (test : GroupState → Bool) :
    s.memberOf n test = true ↔ ∃ g, test (s.groups.get g).state = true ∧ (s.groups.get g).hasMember n = true := by
  simp [State.memberOf, mem_allFour]

/-- Where no station belongs to two groups, a station's group runs exactly if it is a member of a running group. -/
theorem MembersApart.inRunningGroup_eq {s : State} (h : MembersApart s) (n : Station) :
    s.inRunningGroup n = s.memberOf n GroupState.running := by
  rw [Bool.eq_iff_iff, memberOf_iff, State.inRunningGroup]
  cases ho : s.groupOf n with
  | none =>
    have outside := (groupOf_eq_none_iff s n).mp ho
    simp only [Bool.false_eq_true, false_iff]
    rintro ⟨g, _, hm⟩
    rw [h.groupOf_eq hm] at ho
    cases ho
  | some k =>
    constructor
    · exact fun hr => ⟨k, hr, (groupOf_some ho).2⟩
    · rintro ⟨g, hr, hm⟩
      rw [h.groupOf_eq hm, Option.some.injEq] at ho
      rwa [← ho]

theorem MembersApart.linkCondition_iff {s : State} (h : MembersApart s) (n : Station) :
    s.linkCondition n = true ↔ (s.links.get n).state = .noMatch
      ∨ ((s.links.get n).state = .up ∧ (s.links.get n).fault = true)
      ∨ ((s.links.get n).state ≠ .up
        ∧ ∃ g, (s.groups.get g).state.running = true ∧ (s.groups.get g).hasMember n = true) := by
  rw [← memberOf_iff, ← h.inRunningGroup_eq n]
  simp [State.linkCondition, or_assoc, and_comm]

/-- Settles O15, from the level handed to each flag, the flags by their numbers, and the conditions one by one. -/
theorem endOfEveryEvent : Obligations.EndOfEveryEvent := by
  refine ⟨fun b => ⟨handConditions_get b, rfl, fun _ => rfl, fun h => ?_, fun h => ?_⟩,
    fun m => ⟨?_, flagList_length m, attnLevel_iff m⟩,
    fun s n g => ⟨rfl, Iff.of_eq (Bool.or_eq_true _ _), fun h => h.linkCondition_iff n, rfl, rfl, rfl⟩⟩
  · exact settle_trip b (by rw [h.1]; exact congrArg (!·) h.2)
  · have quiet : ((handConditions b).mon.tripSet && !(handConditions b).mon.tripOut) = false := by
      rw [Bool.eq_false_iff]
      intro both
      obtain ⟨set, out⟩ := (Bool.and_eq_true _ _).mp both
      exact h ⟨set, show (handConditions b).mon.tripOut = false by simpa using out⟩
    exact settle_noTrip b quiet
  · simp only [← filteredSet_iff]
    exact tripSet_iff m

/-- Settles O60, from the laws of the fields and the flags by their numbers. -/
theorem fieldsCodesAndFlagNumbers : Obligations.FieldsCodesAndFlagNumbers := by
  refine ⟨fun n v => ⟨le_length n v, le_getD n v⟩, leInt_eq, fun _ => rfl, rfl, rfl, bitsToNat_testBit, rfl, rfl, rfl,
    rfl, rfl, rfl, rfl, rfl, rfl, fun _ => rfl, rfl, rfl, fun _ => ⟨rfl, rfl, rfl, rfl, rfl⟩, rfl, filteredIds_numbers,
    fun m => ⟨flagList_length m, fun i => ⟨flagList_filtered m i, filteredSet_iff m i⟩, rfl, rfl, rfl, rfl, rfl,
      fun g => ?_, rfl, rfl, rfl, rfl, flagWord_getLsbD m⟩⟩
  match g with
  | 0 => rfl
  | 1 => rfl
  | 2 => rfl
  | 3 => rfl

end Sys2Proof.Machine
end

section
/-! SUPPORT. What RELEASE, the engage timeout and DISBAND leave of their group (R73, R74, R75), and the invariant of an asserted TRIP_OUT (R157). -/

set_option Elab.async false

namespace Sys2Proof.Machine

/-! ## Groups that become FREE or UNDEFINED (R73, R74, R75) -/

theorem logRecord_withPosted (r : ExcRecord) (s : State) (p : Quad Int) :
    logRecord r (s.withPosted p) = (logRecord r s).withPosted p := by
  by_cases h : s.exc.log.length < Config.logCapacity <;> simp [logRecord, h, State.withPosted, State.withExc, State.withMon]

theorem releaseGroup_noRecord (g : GroupId) (s : State) (ho : (s.groups.get g).openSlip = none) :
    releaseGroup g s = windowCause g none (some .release)
      (withGroupIdle g (s.groups.get g).releasedBy (s.groups.get g).members s) := by
  rw [releaseGroup, closeExcursion_empty g _ s ho]
  simp only [enterFree, postZero_eq, State.withGroup, Quad.get_set_self, Quad.set_set, withGroupIdle]
  rfl

theorem releaseGroup_record (g : GroupId) (s : State) (o : OpenSlip) (ho : (s.groups.get g).openSlip = some o) :
    releaseGroup g s = windowCause g (some (o.closed g s.clock .released)) (some .release)
      (withGroupIdle g (s.groups.get g).releasedBy (s.groups.get g).members
        (logRecord (o.closed g s.clock .released) s)) := by
  rw [releaseGroup, closeExcursion_open g _ s o ho]
  simp only [enterFree, postZero_eq, State.withGroup, Quad.get_set_self, Quad.set_set, withGroupIdle]
  rfl

theorem windowCause_groups (g : GroupId) (r : Option ExcRecord) (own : Option CauseKind) (s : State) :
    (windowCause g r own s).groups = s.groups :=
  sameBut_windowCause s g r own (bs := [.windows]) (by decide) .groups (by decide)

theorem windowCause_posted (g : GroupId) (r : Option ExcRecord) (own : Option CauseKind) (s : State) :
    (windowCause g r own s).posted = s.posted :=
  sameBut_windowCause s g r own (bs := [.windows]) (by decide) .posted (by decide)

/-- Whatever its record, a released group is left as R74 says and 0 is posted for its members. -/
theorem releaseGroup_groups (g : GroupId) (s : State) :
    (releaseGroup g s).groups = s.groups.set g (s.groups.get g).releasedBy
      ∧ (releaseGroup g s).posted = zeroedFor (s.groups.get g).members s.posted := by
  cases ho : (s.groups.get g).openSlip with
  | none =>
    rw [releaseGroup_noRecord g s ho, windowCause_groups, windowCause_posted]
    exact ⟨rfl, rfl⟩
  | some o =>
    rw [releaseGroup_record g s o ho, windowCause_groups, windowCause_posted]
    simp [withGroupIdle, logRecord_groups, logRecord_posted]

/-- A group that failed to engage: FREE, its timers stopped (R73). -/
def Group.freed (x : Group) : Group := { x with state := .free, periodDue := none, engageDue := none, sync := false }

theorem engageFailed_eq (g : GroupId) (s : State) :
    engageFailed g s =
      windowCause g (some (s.writtenRecord g .engageTimeout ((s.groups.get g).engagedAt.getD 0) .timeout)) none
        { logRecord (s.writtenRecord g .engageTimeout ((s.groups.get g).engagedAt.getD 0) .timeout)
            s.countedExcursion with
          groups := s.groups.set g (s.groups.get g).freed,
          posted := zeroedFor (s.groups.get g).members s.posted } := by
  have written (r : ExcRecord) (p : Quad Int) (x : Group) :
      logRecord r ((s.countedExcursion.withPosted p).withGroup g x)
        = { logRecord r s.countedExcursion with groups := s.groups.set g x, posted := p } := by
    rw [logRecord_withGroup, logRecord_withPosted, State.withGroup, State.withPosted_groups, logRecord_groups]
    rfl
  have record : writeClosed g .engageTimeout ((s.groups.get g).engagedAt.getD 0) .timeout (enterFree g s)
      = (logRecord (s.writtenRecord g .engageTimeout ((s.groups.get g).engagedAt.getD 0) .timeout)
          ((s.countedExcursion.withPosted (postZeroTo (s.groups.get g).members s.posted)).withGroup g
            (s.groups.get g).freed),
        some (s.writtenRecord g .engageTimeout ((s.groups.get g).engagedAt.getD 0) .timeout)) := rfl
  have engaged : ((enterFree g s).groups.get g).engagedAt = (s.groups.get g).engagedAt := by
    rw [enterFree_spec, State.withGroup_groups, Quad.get_set_self]
  rw [engageFailed, engaged, record, written, postZeroTo_eq_zeroedFor]

theorem engageFailed_groups (g : GroupId) (s : State) :
    (engageFailed g s).groups = s.groups.set g (s.groups.get g).freed
      ∧ (engageFailed g s).posted = zeroedFor (s.groups.get g).members s.posted := by
  rw [engageFailed_eq, windowCause_groups, windowCause_posted]
  exact ⟨rfl, rfl⟩

/-- A disbanded group (R75). -/
def Group.disbanded (x : Group) : Group :=
  { x with state := .undefined, defn := none, periodDue := none, engageDue := none, sync := false }

theorem disbandGroup_groups (g : GroupId) (s : State) :
    (disbandGroup g s).groups = s.groups.set g (s.groups.get g).disbanded
      ∧ (disbandGroup g s).posted = zeroedFor (s.groups.get g).members s.posted := by
  have window (u : State) := sameBut_disbandWindow u g
  have sched (u : State) := sameBut_disbandSchedule u g
  rw [disbandGroup]
  constructor
  · rw [(window _) .groups (by decide), (sched _) .groups (by decide)]
    rfl
  · rw [(window _) .posted (by decide), (sched _) .posted (by decide), postZero_eq]
    rfl

/-! ## TRIP_OUT (R157) -/

/-- No station is permitted, the permit timer is stopped and no group runs. -/
def Quiescent (s : State) : Prop :=
  s.permit.mask = 0#4 ∧ s.permit.due = none ∧ ∀ g, (s.groups.get g).state.running = false

theorem tripQuiet_iff (s : State) : TripQuiet s ↔ (s.mon.tripOut = true → Quiescent s) := by
  simp [TripQuiet, Quiescent, mem_allFour]

theorem running_of_driving {x : GroupState} (h : x.driving = true) : x.running = true := by
  cases x with
  | engaging | locked | slipping => rfl
  | _ => cases h

namespace Quiescent

variable {s t : State}

theorem congr (h : Quiescent s) (hp : t.permit = s.permit) (hg : t.groups = s.groups) : Quiescent t := by
  obtain ⟨mask, due, still⟩ := h
  exact ⟨hp ▸ mask, hp ▸ due, fun g => hg ▸ still g⟩

/-- A group enters a state that does not run. -/
theorem set_group (h : Quiescent s) (hp : t.permit = s.permit) (g : GroupId) (x : Group)
    (hg : t.groups = s.groups.set g x) (hx : x.state.running = false) : Quiescent t := by
  obtain ⟨mask, due, still⟩ := h
  refine ⟨hp ▸ mask, hp ▸ due, fun k => ?_⟩
  rw [hg, Quad.get_set]
  split
  · exact hx
  · exact still k

theorem claimHeld_eq (h : Quiescent s) (g : GroupId) : claimHeld g s = s := by
  apply claimHeld_idle
  cases hd : (s.groups.get g).state.driving with
  | false => rfl
  | true => rw [← h.2.2 g, running_of_driving hd]

theorem claimStation_eq (h : Quiescent s) (n : Station) : claimStation n s = s := by
  unfold claimStation
  split
  · exact h.claimHeld_eq _
  · rfl

theorem claimRemoved_eq (h : Quiescent s) (removed : BitVec 4) : claimRemoved removed s = s := by
  simp [claimRemoved, allFour, h.claimHeld_eq]

/-- A link changes, and a claim follows or not. -/
theorem moveLink_keeps (h : Quiescent s) (n : Station) (f : Link → Link) : Quiescent (moveLink n f s) := by
  have moved : Quiescent (s.withLink n (f (s.links.get n).leaveIfUp)) := h
  unfold moveLink
  exact ite_keeps ((moved.claimStation_eq n).symm ▸ moved) moved

theorem judgeMissing_keeps (h : Quiescent s) (n : Station) : Quiescent (judgeMissing n s) := by
  have changed (l : Link) : Quiescent (s.withLink n l) := h
  unfold judgeMissing
  exact ite_keeps (((changed _).claimStation_eq n).symm ▸ changed _) (changed _)

theorem receiveDlk_keeps (h : Quiescent s) (n : Station) (f : DlkFrame) : Quiescent (receiveDlk n f s) := by
  have changed (l : Link) : Quiescent (s.withLink n l) := h
  have spoiled {u : State} (hu : Quiescent u) : Quiescent (spoiledInUp n u) := by
    unfold spoiledInUp
    split
    · exact hu
    · exact hu.judgeMissing_keeps n
  have status (g : StatusFrame) : Quiescent (statusInUp n g s) := by
    unfold statusInUp
    dsimp only
    split
    · exact h
    · exact ite_keeps (ite_keeps (changed _) (((changed _).claimStation_eq n).symm ▸ changed _))
        (h.judgeMissing_keeps n)
  unfold receiveDlk
  dsimp only
  split
  case h_1 | h_2 | h_3 | h_4 => exact h
  case h_5 => exact spoiled (changed _)
  case h_6 => exact spoiled h
  case h_7 => exact status _
  all_goals exact changed _

theorem updateExpiry_keeps (h : Quiescent s) (n : Station) : Quiescent (updateExpiry n s) := by
  unfold updateExpiry
  split
  · exact h
  · exact ite_keeps (h.judgeMissing_keeps n) (h.judgeMissing_keeps n)

theorem linkRequests_keep (h : Quiescent s) (body : List Byte) :
    Quiescent (reqLinkEnable body s).1 ∧ Quiescent (reqLinkRestart body s).1 := by
  constructor
  · unfold reqLinkEnable
    split
    · exact h
    · next n v _ =>
      have enabled : Quiescent (s.withSettings n { s.settings.get n with linkEnable := v }) := h
      split
      · exact ite_keeps (s := s.withSettings n { s.settings.get n with linkEnable := v }) h h
      · exact enabled.moveLink_keeps n _
  · unfold reqLinkRestart
    split
    · exact h
    · split
      · exact h
      · exact h.moveLink_keeps _ _

theorem groupDefine_keeps (h : Quiescent s) (body : List Byte) : Quiescent (reqGroupDefine body s).1 := by
  unfold reqGroupDefine
  split
  · exact h
  · next g d _ =>
    dsimp only
    split
    · exact h
    · split
      · exact h
      · exact h.set_group (t := (postZero g ((s.withGroup g ((s.groups.get g).defined d)).withRing g Ring.reset)))
          rfl g _ rfl rfl

theorem groupTune_keeps (h : Quiescent s) (body : List Byte) : Quiescent (reqGroupTune body s).1 := by
  unfold reqGroupTune
  split
  · exact h
  · next g t _ =>
    dsimp only
    split
    · exact h
    · exact h
    · exact h.set_group (t := s.withGroup g _) rfl g _ rfl (h.2.2 g)

/-- ENGAGE is refused under an asserted TRIP_OUT (R70). -/
theorem engage_keeps (h : Quiescent s) (ho : s.mon.tripOut = true) (body : List Byte) :
    Quiescent (reqEngage body s).1 := by
  unfold reqEngage
  split
  · exact h
  · next g _ =>
    dsimp only
    split
    case h_1 d _ _ | h_2 d _ _ =>
      have refused : engageRefusal d s = some .tripped := by simp [engageRefusal, ho]
      rw [refused]
      exact h
    case h_3 => exact h

theorem release_keeps (h : Quiescent s) (body : List Byte) : Quiescent (reqRelease body s).1 := by
  have released (g : GroupId) : Quiescent (releaseGroup g s) :=
    h.set_group (sameBut_releaseGroup s g .permit (by decide)) g _ (releaseGroup_groups g s).1 rfl
  unfold reqRelease
  split
  case h_1 => exact h
  case h_2 g _ =>
    cases (s.groups.get g).state with
    | engaging | locked | slipping | held => exact released g
    | tripped =>
      dsimp only
      split
      · exact h
      · exact released g
    | free | undefined => exact h

theorem disband_keeps (h : Quiescent s) (body : List Byte) : Quiescent (reqDisband body s).1 := by
  have disbanded (g : GroupId) : Quiescent (disbandGroup g s) :=
    h.set_group (sameBut_disbandGroup s g .permit (by decide)) g _ (disbandGroup_groups g s).1 rfl
  unfold reqDisband
  split
  · exact h
  · split
    · exact disbanded _
    · exact h

theorem permitTime_keeps (h : Quiescent s) (body : List Byte) : Quiescent (reqPermitTime body s).1 := by
  unfold reqPermitTime
  split
  · exact h
  · exact ⟨h.1, h.2.1, h.2.2⟩

/-- PERMIT GRANT is refused under an asserted TRIP_OUT but for the empty mask (R132). -/
theorem permitGrant_keeps (h : Quiescent s) (ho : s.mon.tripOut = true) (body : List Byte) :
    Quiescent (reqPermitGrant body s).1 := by
  unfold reqPermitGrant
  split
  · exact h
  · next m _ =>
    by_cases hm : m = 0#4
    · have granted : Quiescent (s.withPermit (s.permit.grant m s.clock)) := by
        simp only [Permit.grant, hm, if_true]
        exact ⟨rfl, rfl, h.2.2⟩
      simp only [hm, ne_eq, not_true_eq_false, false_and, if_false] at granted ⊢
      exact (granted.claimRemoved_eq _).symm ▸ granted
    · simp [hm, ho, h]

/-- PERMIT RENEW is refused while the permit timer is stopped (R135). -/
theorem permitRenew_keeps (h : Quiescent s) (body : List Byte) : Quiescent (reqPermitRenew body s).1 := by
  unfold reqPermitRenew
  split
  · exact h
  · simp [h.2.1, h]

end Quiescent

/-- The trip event withdraws the permits (R137). -/
theorem tripEvent_permit (s : State) : (tripEvent s).permit = { s.permit with mask := 0#4, due := none } := by
  have group (t : State) (g : GroupId) : SameBut [.groups, .posted, .mon, .exc, .windows, .rings] t (tripGroup g t) :=
    sameBut_tripGroup t g
  rw [tripEvent, sameBut_foldl _ group allFour .permit (by decide)]
  rfl

theorem tripRecord_groups (g : GroupId) (s : State) :
    (tripRecord g s).1.groups = s.groups.set g { s.groups.get g with openSlip := none } := by
  cases ho : (s.groups.get g).openSlip with
  | some o => rw [tripRecord_open g s o ho, State.withGroup_groups, logRecord_groups]
  | none =>
    have unchanged : s.groups.set g { s.groups.get g with openSlip := none } = s.groups := by
      rw [← ho]
      exact Quad.set_get _ g
    simp only [unchanged, tripRecord, ho]
    split
    · exact logRecord_groups _ _
    · exact logRecord_groups _ _
    all_goals rfl

theorem tripGroup_groups (g : GroupId) (s : State) (hr : (s.groups.get g).state.running = true) :
    (tripGroup g s).groups = s.groups.set g (s.groups.get g).trippedBy
      ∧ (tripGroup g s).posted = zeroedFor (s.groups.get g).members s.posted := by
  have posted : (tripRecord g s).1.posted = s.posted := by
    obtain ⟨x, e, a, h⟩ := tripRecord_frame g s
    rw [h]
    rfl
  rw [tripGroup, if_pos hr]
  dsimp only
  rw [windowCause_groups, windowCause_posted]
  simp only [State.withRing_groups, State.withRing_posted, State.withGroup_groups, State.withGroup_posted, postZero_eq,
    tripRecord_groups, posted, Quad.set_set, Quad.get_set_self]
  exact ⟨rfl, rfl⟩

/-- The trip event at one group leaves it not running, and no other group running that did not. -/
theorem tripGroup_still_running (g h : GroupId) (s : State) :
    ((tripGroup g s).groups.get h).state.running = ((s.groups.get h).state.running && decide (h ≠ g)) := by
  cases hr : (s.groups.get g).state.running with
  | false =>
    rw [tripGroup_still g s hr]
    by_cases hg : h = g
    · simp [hg, hr]
    · simp [hg]
  | true =>
    rw [(tripGroup_groups g s hr).1, Quad.get_set]
    by_cases hg : h = g
    · simp [hg, Group.trippedBy, GroupState.running]
    · simp [hg]

theorem quiescent_tripEvent (s : State) : Quiescent (tripEvent s) := by
  have permit := tripEvent_permit s
  refine ⟨by rw [permit], by rw [permit], fun g => ?_⟩
  simp only [tripEvent, allFour, List.foldl_cons, List.foldl_nil, tripGroup_still_running]
  match g with
  | 0 => simp
  | 1 => simp
  | 2 => simp
  | 3 => simp

/-- Where the end of an event asserts TRIP_OUT afresh, the trip event has withdrawn permits and stopped groups; where it
stood asserted, it is the event's own effect that must have kept it so. -/
theorem tripQuiet_settle (s : State) (h : TripQuiet s) : TripQuiet (settle s) := by
  rw [tripQuiet_iff] at h ⊢
  cases fresh : (handConditions s).mon.tripSet && !(handConditions s).mon.tripOut with
  | true =>
    rw [settle_trip s fresh]
    exact fun _ => quiescent_tripEvent (handConditions s)
  | false =>
    rw [settle_noTrip s fresh]
    intro set
    have asserted : (handConditions s).mon.tripSet = true := set
    rw [asserted, Bool.true_and, Bool.not_eq_false'] at fresh
    exact h fresh

/-- The blocks that the invariant of an asserted TRIP_OUT reads. -/
def tripBlocks : List Block := [.tripOut, .permit, .groups]

theorem tripQuiet_request (k : ReqKind) (held : Bool) (body : List Byte) (s : State)
    (hk : meets (requestBlocks k) tripBlocks = true) (h : TripQuiet s) : TripQuiet (perform k held body s).1 := by
  rw [tripQuiet_iff] at h ⊢
  have tripOut : (perform k held body s).1.mon.tripOut = s.mon.tripOut :=
    sameBut_perform s body k held .tripOut (by cases k <;> decide)
  rw [tripOut]
  intro ho
  replace h := h ho
  cases k with
  | linkEnable => exact (h.linkRequests_keep body).1
  | linkRestart => exact (h.linkRequests_keep body).2
  | groupDefine => exact h.groupDefine_keeps body
  | groupTune => exact h.groupTune_keeps body
  | engage => exact h.engage_keeps ho body
  | release => exact h.release_keeps body
  | disband => exact h.disband_keeps body
  | permitTime => exact h.permitTime_keeps body
  | permitGrant => exact h.permitGrant_keeps ho body
  | permitRenew => exact h.permitRenew_keeps body
  | _ => cases hk

theorem tripQuiet_event (i : Instr) (s : State) (hi : meets (eventBlocks i) tripBlocks = true) (h : TripQuiet s) :
    TripQuiet (effect i s) := by
  rw [tripQuiet_iff] at h ⊢
  have tripOut : (effect i s).mon.tripOut = s.mon.tripOut :=
    sameBut_effect_of_meets hi s .tripOut (by cases i <;> simp [eventBlocks, claimBlocks])
  rw [tripOut]
  intro ho
  replace h := h ho
  have ⟨_, due, still⟩ := h
  cases i with
  | dlkFrameReceived n f => exact h.receiveDlk_keeps n f
  | updateTimerExpiry n => exact ite_keeps (h.updateExpiry_keeps n) h
  | periodTimerExpiry g =>
    have stands : runPeriod g s = s := by
      have hg := still g
      unfold runPeriod
      split
      case h_1 e _ | h_2 e _ | h_3 e _ | h_4 e _ => simp [e, GroupState.running] at hg
      case h_5 => rfl
    exact ite_keeps (stands.symm ▸ h) h
  | engageTimerExpiry g =>
    have stands : (s.groups.get g).state ≠ .engaging := fun e => by simpa [e, GroupState.running] using still g
    simpa [effect, stands] using h
  | permitTimerExpiry => simpa [effect, due, dueAt] using h
  | _ => cases hi

theorem kept_tripQuiet : Kept tripBlocks TripQuiet where
  inner := by decide
  reads s t same h := by
    rw [tripQuiet_iff] at h ⊢
    have tripOut : t.mon.tripOut = s.mon.tripOut := same .tripOut (by decide)
    exact fun ho => (h (tripOut ▸ ho)).congr (same .permit (by decide)) (same .groups (by decide))
  reset s lines alerts _ ho := nomatch ho
  request := tripQuiet_request
  event := tripQuiet_event
  settles := tripQuiet_settle

/-- Settles O5: the invariant is kept, and while TRIP_OUT is asserted the gate passes nothing. -/
theorem stepKeepsTripQuiet : Obligations.StepKeepsTripQuiet := by
  intro s t hs h
  refine ⟨kept_tripQuiet.step_keeps s t hs h, fun ho n => ?_⟩
  simp [State.gate, ho]

end Sys2Proof.Machine
end

section
/-! SUPPORT. A control period stage by stage (R85, R99 to R108): what stage nine and the end of a period leave in each running state, and the statement on control periods. -/

set_option Elab.async false

namespace Sys2Proof.Machine

/-! ## Posting and the ring (R99, R175) -/

/-- The demands of a period go to the members in their order. -/
theorem postDemands_readings (s : State) (ms : List Member) (os ds : List Int) (p : Quad Int) :
    postDemands (readings s ms os) ds p = postedTo ms ds p := by
  induction ms generalizing os ds p with
  | nil => cases ds <;> rfl
  | cons m ms ih =>
    cases ds with
    | nil => rfl
    | cons d ds => exact ih os.tail ds (p.set m.station d)

theorem write_eq_taken (r : Ring) (e : RingEntry) : r.write e = r.taken e := rfl

/-! ## Comparisons of stage nine (R100, R101, R103, R104) -/

theorem syncOf_eq (t : Tuning) (b : PeriodBase) :
    syncOf t b = decide (t.tripPosition < b.maxPos ∨ t.tripSpeed < b.maxSpd) := by
  simp only [syncOf, insideWindow, Bool.decide_or, Bool.not_and, ← decide_not, Nat.not_le]

theorem insideWindow_iff (b : PeriodBase) (p v : Nat) : insideWindow b p v = true ↔ b.maxPos ≤ p ∧ b.maxSpd ≤ v := by
  simp [insideWindow]

theorem relocks_iff (t : Tuning) (b : PeriodBase) :
    relocks t b = true ↔ 4 * b.maxPos ≤ 3 * t.lockPosition ∧ 4 * b.maxSpd ≤ 3 * t.lockSpeed := by
  simp [relocks]

theorem withGroup_withGroup (s : State) (g : GroupId) (x y : Group) :
    (s.withGroup g x).withGroup g y = s.withGroup g y := by
  simp only [State.withGroup, Quad.set_set]

/-! ## Stage nine by the group's state (R100 to R104) -/

section StageNine

variable (g : GroupId) (t : Tuning) (full : Bool) (b : PeriodBase) (u : State)

theorem stageNine_engaging (h : (u.groups.get g).state = .engaging) :
    stageNine g t full b u =
      u.withGroup g (if confirmStep (u.groups.get g).confirm full (insideWindow b t.lockPosition t.lockSpeed) = 8 then
          { u.groups.get g with sync := syncOf t b, confirm := 8, state := .locked, engageDue := none }
        else { u.groups.get g with
          sync := syncOf t b,
          confirm := confirmStep (u.groups.get g).confirm full (insideWindow b t.lockPosition t.lockSpeed) }) := by
  simp only [stageNine, h, judgeEngaging, State.withGroup, Quad.get_set_self, Quad.set_set]
  split
  · next h8 => rw [h8]
  · rfl

theorem stageNine_locked_inside (h : (u.groups.get g).state = .locked)
    (hi : insideWindow b t.lockPosition t.lockSpeed = true) :
    stageNine g t full b u = u.withGroup g { u.groups.get g with sync := syncOf t b } := by
  simp only [stageNine, h, judgeLocked, hi, if_true]

theorem stageNine_locked_outside (h : (u.groups.get g).state = .locked)
    (hi : insideWindow b t.lockPosition t.lockSpeed = false) :
    stageNine g t full b u = u.countedExcursion.withGroup g { u.groups.get g with
      sync := syncOf t b, state := .slipping,
      openSlip := some { seq := u.exc.counter, start := u.clock, peakPosition := b.maxPos, peakSpeed := b.maxSpd,
                         tag := (u.scheds.get g).activeTag } } := by
  simp only [stageNine, h, judgeLocked, hi, Bool.false_eq_true, if_false, openExcursion, State.withGroup,
    Quad.get_set_self, Quad.set_set]
  rfl

theorem stageNine_slipping_stays (h : (u.groups.get g).state = .slipping) (o : OpenSlip)
    (ho : (u.groups.get g).openSlip = some o) (hr : relocks t b = false) :
    stageNine g t full b u = u.withGroup g { u.groups.get g with
      sync := syncOf t b, openSlip := some (o.peak b) } := by
  simp only [stageNine, h, judgeSlipping, hr, Bool.false_eq_true, if_false, State.withGroup, Quad.get_set_self,
    Quad.set_set, ho, Option.map_some]

theorem stageNine_slipping_relocks (h : (u.groups.get g).state = .slipping) (o : OpenSlip)
    (ho : (u.groups.get g).openSlip = some o) (hr : relocks t b = true) :
    stageNine g t full b u =
      windowCause g (some ((o.peak b).closed g u.clock .recovered)) none
        ((logRecord ((o.peak b).closed g u.clock .recovered) u).withGroup g { u.groups.get g with
          sync := syncOf t b, openSlip := none, state := .locked }) := by
  simp only [stageNine, h, judgeSlipping, hr, if_true, State.withGroup_groups, Quad.get_set_self, ho, Option.map_some]
  rw [closeExcursion_open g .recovered _ (o.peak b) (by simp)]
  simp only [logRecord_withGroup, State.withGroup_groups, Quad.get_set_self, withGroup_withGroup]
  rfl

theorem stageNine_held (h : (u.groups.get g).state = .held) :
    stageNine g t full b u = u.withGroup g { u.groups.get g with sync := syncOf t b } := by
  simp only [stageNine, h]

end StageNine

/-! ## The end of a period (R105, R106) -/

theorem windowCause_withRing (g : GroupId) (r : Option ExcRecord) (own : Option CauseKind) (s : State) (h : GroupId)
    (x : Ring) : windowCause g r own (s.withRing h x) = (windowCause g r own s).withRing h x := by
  by_cases ho : (s.windows.get g).state = .openValid
  · cases hc : firstCause (s.windows.get g).limit s.clock r own with
    | none => simp [windowCause, ho, hc]
    | some c =>
      simp only [windowCause, ho, hc, State.withRing_windows, State.withRing_clock, if_true]
      rfl
  · simp [windowCause, ho]

theorem windowCause_withGroup (g : GroupId) (r : Option ExcRecord) (own : Option CauseKind) (s : State) (h : GroupId)
    (x : Group) : windowCause g r own (s.withGroup h x) = (windowCause g r own s).withGroup h x := by
  by_cases ho : (s.windows.get g).state = .openValid
  · cases hc : firstCause (s.windows.get g).limit s.clock r own with
    | none => simp [windowCause, ho, hc]
    | some c =>
      simp only [windowCause, ho, hc, State.withGroup_windows, State.withGroup_clock, if_true]
      rfl
  · simp [windowCause, ho]

/-- The window's cause and the end of a period do not touch the same. -/
theorem endPeriod_windowCause (g : GroupId) (d : GroupDef) (e : RingEntry) (r : Option ExcRecord)
    (own : Option CauseKind) (s : State) :
    endPeriod g d e (windowCause g r own s) = windowCause g r own (endPeriod g d e s) := by
  have groups := windowCause_groups g r own s
  have rings : (windowCause g r own s).rings = s.rings :=
    sameBut_windowCause s g r own (bs := [.windows]) (by decide) .rings (by decide)
  have clock : (windowCause g r own s).clock = s.clock :=
    sameBut_windowCause s g r own (bs := [.windows]) (by decide) .clock (by decide)
  simp only [endPeriod, groups, rings, clock, windowCause_withGroup, windowCause_withRing]

theorem endPeriod_withGroup (g : GroupId) (d : GroupDef) (e : RingEntry) (u : State) (y : Group) :
    endPeriod g d e (u.withGroup g y) =
      { u with
        groups := u.groups.set g { y with
          rampProgress := advanceRamp y.state d.ramp d.period y.rampProgress,
          periodSeq := y.periodSeq + 1#32, periodDue := some (u.clock + d.period) },
        rings := u.rings.set g ((u.rings.get g).taken { e with state := y.state }) } := by
  simp only [endPeriod, write_eq_taken, State.withGroup, State.withRing, Quad.get_set_self, Quad.set_set]

/-! ## A driving period (R85, R99, R105) -/

section Driving

variable (s : State) (g : GroupId) (d : GroupDef)

/-- What a period forms in every running state. -/
def formedBase : PeriodBase := periodBase d.kind (readings s d.members ((s.groups.get g).offsets.getD []))

/-- What a period forms in a driving state. -/
def formedDrive : PeriodDrive :=
  periodDrive d ((s.groups.get g).state == .engaging) (rampFraction d.ramp (s.groups.get g).rampProgress)
    (s.groups.get g).history (s.scheds.get g).applied
    (readings s d.members ((s.groups.get g).offsets.getD [])) (formedBase s g d)

/-- The ramp has run its length. -/
def rampFull : Bool :=
  decide ((rampFraction d.ramp (s.groups.get g).rampProgress).1 = (rampFraction d.ramp (s.groups.get g).rampProgress).2)

/-- The entry a driving period hands to the ring, its state being that of the period's end. -/
def formedEntry (st : GroupState) : RingEntry :=
  { seq := (s.groups.get g).periodSeq, at_ := s.clock, state := st, refSpeed := (formedBase s g d).refSpeed,
    accel := (formedDrive s g d).accel, force := (formedDrive s g d).force, maxPosition := (formedBase s g d).maxPos,
    maxSpeed := (formedBase s g d).maxSpd, scaled := (formedDrive s g d).scaled, limited := (formedDrive s g d).limited,
    demandLimited := (formedDrive s g d).demandLimited, ramping := !rampFull s g d }

/-- The group a driving period leaves, `y` being what stage nine makes of its state, confirmation and record. -/
def drivenGroup (y : Group) : Group :=
  { y with
    history := shiftHistory (s.groups.get g).history (formedBase s g d).refSpeed,
    sync := syncOf d.tuning (formedBase s g d),
    rampProgress := min ((s.groups.get g).rampProgress + d.period) (d.ramp * 1000),
    periodSeq := (s.groups.get g).periodSeq + 1#32, periodDue := some (s.clock + d.period) }

/-- What a driving period leaves, `u` being what stage nine makes of the log. -/
def driven (y : Group) (u : State) : State :=
  { u with
    posted := postedTo d.members (formedDrive s g d).demands s.posted,
    groups := s.groups.set g (drivenGroup s g d y),
    rings := s.rings.set g ((s.rings.get g).taken (formedEntry s g d y.state)) }

/-- The state stage nine finds. -/
def demanded (u : State) : State :=
  (u.withPosted (postedTo d.members (formedDrive s g d).demands s.posted)).withGroup g
    { s.groups.get g with history := shiftHistory (s.groups.get g).history (formedBase s g d).refSpeed }

theorem demanded_group (u : State) : (demanded s g d u).groups.get g =
    { s.groups.get g with history := shiftHistory (s.groups.get g).history (formedBase s g d).refSpeed } := by
  simp [demanded]

theorem drivingPeriod_eq : drivingPeriod g d s =
    endPeriod g d (formedEntry s g d (s.groups.get g).state)
      (stageNine g d.tuning (rampFull s g d) (formedBase s g d) (demanded s g d s)) := by
  simp only [drivingPeriod, postDemands_readings]
  rfl

/-- The end of a driving period after a stage nine that leaves the group `y` driving and the log in `u`. -/
theorem endPeriod_driven (st : GroupState) (y : Group) (u : State) (hd : y.state.driving = true)
    (hr : y.rampProgress = (s.groups.get g).rampProgress) (hp : y.periodSeq = (s.groups.get g).periodSeq)
    (hc : u.clock = s.clock) (hg : u.groups = s.groups) (hi : u.rings = s.rings) :
    endPeriod g d (formedEntry s g d st) ((demanded s g d u).withGroup g { y with
      history := shiftHistory (s.groups.get g).history (formedBase s g d).refSpeed,
      sync := syncOf d.tuning (formedBase s g d) }) = driven s g d y u := by
  have ramp (n : Nat) : advanceRamp y.state d.ramp d.period n = min (n + d.period) (d.ramp * 1000) := by
    cases hy : y.state <;> simp [hy, GroupState.driving] at hd <;> rfl
  rw [demanded, withGroup_withGroup, endPeriod_withGroup]
  simp only [driven, drivenGroup, formedEntry, ramp, hr, hp, hc, hg, hi, State.withPosted]

/-- The confirmation count a period in ENGAGING leaves (R101). -/
def confirmed : Nat :=
  confirmStep (s.groups.get g).confirm (rampFull s g d)
    (insideWindow (formedBase s g d) d.tuning.lockPosition d.tuning.lockSpeed)

theorem drivingPeriod_engaging (h : (s.groups.get g).state = .engaging) :
    drivingPeriod g d s = driven s g d
      (if confirmed s g d = 8 then { s.groups.get g with confirm := 8, state := .locked, engageDue := none }
      else { s.groups.get g with confirm := confirmed s g d }) s := by
  rw [drivingPeriod_eq, stageNine_engaging _ _ _ _ _ (by rw [demanded_group, h])]
  have count : confirmStep ((demanded s g d s).groups.get g).confirm (rampFull s g d)
      (insideWindow (formedBase s g d) d.tuning.lockPosition d.tuning.lockSpeed) = confirmed s g d := by
    rw [demanded_group, confirmed]
  rw [count, demanded_group]
  split
  · exact endPeriod_driven s g d _ { s.groups.get g with confirm := 8, state := .locked, engageDue := none } s
      rfl rfl rfl rfl rfl rfl
  · exact endPeriod_driven s g d _ { s.groups.get g with confirm := confirmed s g d } s
      (by simp [h, GroupState.driving])
      rfl rfl rfl rfl rfl

theorem drivingPeriod_locked_inside (h : (s.groups.get g).state = .locked)
    (hi : insideWindow (formedBase s g d) d.tuning.lockPosition d.tuning.lockSpeed = true) :
    drivingPeriod g d s = driven s g d (s.groups.get g) s := by
  rw [drivingPeriod_eq, stageNine_locked_inside _ _ _ _ _ (by rw [demanded_group, h]) hi]
  simp only [demanded_group]
  exact endPeriod_driven s g d _ (s.groups.get g) s (by simp [h, GroupState.driving]) rfl rfl rfl rfl rfl

/-- The record a LOCKED group opens (R102). -/
def openedSlip : OpenSlip :=
  { seq := s.exc.counter, start := s.clock, peakPosition := (formedBase s g d).maxPos,
    peakSpeed := (formedBase s g d).maxSpd, tag := (s.scheds.get g).activeTag }

theorem drivingPeriod_locked_outside (h : (s.groups.get g).state = .locked)
    (hi : insideWindow (formedBase s g d) d.tuning.lockPosition d.tuning.lockSpeed = false) :
    drivingPeriod g d s = driven s g d
      { s.groups.get g with state := .slipping, openSlip := some (openedSlip s g d) } s.countedExcursion := by
  rw [drivingPeriod_eq, stageNine_locked_outside _ _ _ _ _ (by rw [demanded_group, h]) hi]
  simp only [demanded_group]
  exact endPeriod_driven s g d _ { s.groups.get g with state := .slipping, openSlip := some (openedSlip s g d) }
    s.countedExcursion rfl rfl rfl rfl rfl rfl

theorem drivingPeriod_slipping_stays (h : (s.groups.get g).state = .slipping) (o : OpenSlip)
    (ho : (s.groups.get g).openSlip = some o) (hr : relocks d.tuning (formedBase s g d) = false) :
    drivingPeriod g d s = driven s g d
      { s.groups.get g with openSlip := some (o.peak (formedBase s g d)) } s := by
  rw [drivingPeriod_eq, stageNine_slipping_stays _ _ _ _ _ (by rw [demanded_group, h]) o (by rw [demanded_group, ho]) hr]
  simp only [demanded_group]
  exact endPeriod_driven s g d _ { s.groups.get g with openSlip := some (o.peak (formedBase s g d)) } s
    (by simp [h, GroupState.driving]) rfl rfl rfl rfl rfl

theorem drivingPeriod_slipping_relocks (h : (s.groups.get g).state = .slipping) (o : OpenSlip)
    (ho : (s.groups.get g).openSlip = some o) (hr : relocks d.tuning (formedBase s g d) = true) :
    drivingPeriod g d s =
      windowCause g (some ((o.peak (formedBase s g d)).closed g s.clock .recovered)) none (driven s g d
        { s.groups.get g with openSlip := none, state := .locked }
        (logRecord ((o.peak (formedBase s g d)).closed g s.clock .recovered) s)) := by
  have logged (r : ExcRecord) : logRecord r (demanded s g d s) = demanded s g d (logRecord r s) := by
    rw [demanded, logRecord_withGroup, logRecord_withPosted, demanded]
  have same (r : ExcRecord) (b : Block) (hb : b ∉ [Block.exc, .mon]) : b.Same s (logRecord r s) :=
    sameBut_logRecord s r (by decide) b hb
  rw [drivingPeriod_eq,
    stageNine_slipping_relocks _ _ _ _ _ (by rw [demanded_group, h]) o (by rw [demanded_group, ho]) hr,
    endPeriod_windowCause]
  simp only [demanded_group, logged]
  exact congrArg (windowCause g _ none) (endPeriod_driven s g d _
    { s.groups.get g with openSlip := none, state := .locked } (logRecord _ s) rfl rfl rfl (same _ .clock (by decide))
    (same _ .groups (by decide)) (same _ .rings (by decide)))

end Driving

/-! ## A period in HELD (R108) -/

/-- The entry of a period in HELD. -/
def heldEntry (s : State) (g : GroupId) (d : GroupDef) : RingEntry :=
  { seq := (s.groups.get g).periodSeq, at_ := s.clock, state := .held, refSpeed := (formedBase s g d).refSpeed,
    accel := 0, force := 0, maxPosition := (formedBase s g d).maxPos, maxSpeed := (formedBase s g d).maxSpd,
    scaled := false, limited := false, demandLimited := false, ramping := false }

theorem heldPeriod_eq (s : State) (g : GroupId) (d : GroupDef) (h : (s.groups.get g).state = .held) :
    heldPeriod g d s =
      { s with
        posted := zeroedFor (s.groups.get g).members s.posted,
        groups := s.groups.set g { s.groups.get g with
          sync := syncOf d.tuning (formedBase s g d), rampProgress := 0,
          periodSeq := (s.groups.get g).periodSeq + 1#32, periodDue := some (s.clock + d.period) },
        rings := s.rings.set g ((s.rings.get g).taken (heldEntry s g d)) } := by
  rw [heldPeriod]
  simp only [postZero_eq]
  rw [stageNine_held g _ _ _ { s with posted := zeroedFor (s.groups.get g).members s.posted } h, endPeriod_withGroup]
  simp only [h, advanceRamp]
  rfl

/-! ## The event (R85) -/

theorem reached_iff (s : State) (t : Option CellTime) : Reached s t ↔ dueAt s.clock t = true := by
  cases t <;> simp [Reached, dueAt]

theorem exec_period_driving (s : State) (g : GroupId) (d : GroupDef) (hd : (s.groups.get g).defn = some d)
    (hr : Reached s (s.groups.get g).periodDue) (h : (s.groups.get g).state.driving = true) :
    exec (.periodTimerExpiry g) s = .next (settle (drivingPeriod g d s)) := by
  have run : runPeriod g s = drivingPeriod g d s := by
    cases hs : (s.groups.get g).state <;> simp [hs, GroupState.driving] at h <;> simp [runPeriod, hs, hd]
  rw [exec_effect, effect, if_pos ((reached_iff s _).mp hr), run]

theorem exec_period_held (s : State) (g : GroupId) (d : GroupDef) (hd : (s.groups.get g).defn = some d)
    (hr : Reached s (s.groups.get g).periodDue) (h : (s.groups.get g).state = .held) :
    exec (.periodTimerExpiry g) s = .next (settle (heldPeriod g d s)) := by
  have run : runPeriod g s = heldPeriod g d s := by simp [runPeriod, h, hd]
  rw [exec_effect, effect, if_pos ((reached_iff s _).mp hr), run]

/-- Settles O44, by the four running states. -/
theorem controlPeriod : Obligations.ControlPeriod := by
  refine ⟨?_, ?_⟩
  · intro s g d offs x rs pq b v inside relock entry after left becomes hd ho hr
    have base : formedBase s g d = b := by
      simp only [formedBase, b, rs]
      rw [show (s.groups.get g).offsets = some offs from ho]
      rfl
    have drive : formedDrive s g d = v := by
      simp only [formedDrive, base, v, rs]
      rw [show (s.groups.get g).offsets = some offs from ho]
      rfl
    have left_eq (y : Group) (u : State) : left y u = driven s g d y u := by
      simp only [left, after, entry, driven, drivenGroup, formedEntry, base, drive, syncOf_eq, rampFull, decide_not]
      rfl
    have inside_eq : insideWindow b d.tuning.lockPosition d.tuning.lockSpeed = decide inside := by
      rw [Bool.eq_iff_iff, insideWindow_iff, decide_eq_true_eq]
    have relock_eq : relocks d.tuning b = decide relock := by
      rw [Bool.eq_iff_iff, relocks_iff, decide_eq_true_eq]
    have period (h : x.state.driving = true) (t : State) (ht : drivingPeriod g d s = t) : becomes t :=
      ht ▸ exec_period_driving s g d hd hr h
    refine ⟨fun h => ?_, fun h => ?_, fun h o hs => ?_⟩
    · have full_eq : rampFull s g d = decide (pq.1 = pq.2) := rfl
      have count : confirmed s g d = if inside then (if pq.1 = pq.2 then x.confirm + 1 else x.confirm) else 0 := by
        simp [confirmed, confirmStep, base, inside_eq, full_eq, x]
      have engaging := drivingPeriod_engaging s g d h
      rw [count] at engaging
      constructor
      · intro h8
        rw [left_eq]
        exact period (by rw [h]; rfl) _ (engaging.trans (by rw [if_neg h8]))
      · intro h8
        rw [left_eq]
        exact period (by rw [h]; rfl) _ (engaging.trans (by rw [if_pos h8]))
    · constructor
      · intro hi
        rw [left_eq]
        exact period (by rw [h]; rfl) _ (drivingPeriod_locked_inside s g d h (by rw [base, inside_eq]; simp [hi]))
      · intro hi
        rw [left_eq]
        exact period (by rw [h]; rfl) _
          ((drivingPeriod_locked_outside s g d h (by rw [base, inside_eq]; simp [hi])).trans (by
            simp only [openedSlip, base]
            rfl))
    · constructor
      · intro hn
        rw [left_eq]
        exact period (by rw [h]; rfl) _
          ((drivingPeriod_slipping_stays s g d h o hs (by rw [base, relock_eq]; simp [hn])).trans (by
            rw [base]
            rfl))
      · intro hn
        rw [left_eq]
        exact period (by rw [h]; rfl) _
          ((drivingPeriod_slipping_relocks s g d h o hs (by rw [base, relock_eq]; simp [hn])).trans (by
            rw [base]
            rfl))
  · intro s g d offs x b entry after h hd ho hr
    have base : formedBase s g d = b := by
      simp only [formedBase, b]
      rw [show (s.groups.get g).offsets = some offs from ho]
      rfl
    have members : (s.groups.get g).members = d.members := by
      rw [Group.members, show (s.groups.get g).defn = some d from hd]
    refine (exec_period_held s g d hd hr h).trans ?_
    rw [heldPeriod_eq s g d h, members]
    simp only [heldEntry, base, syncOf_eq]
    rfl

end Sys2Proof.Machine
end

section
/-! SUPPORT. The forms of request bodies (section 10.8): a body of the right length that is read as a value is the form of that value, in the ranges the rules give. -/

set_option Elab.async false

namespace Sys2Proof.Machine

/-! ## Bytes from the fields read of them -/

theorem ofNat_byteAt (b : List Byte) (i : Nat) : BitVec.ofNat 8 (byteAt b i) = b.getD i 0#8 := by
  simp [byteAt]

theorem byteAt_lt (b : List Byte) (i : Nat) : byteAt b i < 256 := (b.getD i 0#8).isLt

/-- A list is the list of its entries. -/
theorem eq_map_getD (b : List Byte) (n : Nat) (h : b.length = n) : b = (List.range n).map fun i => b.getD i 0#8 := by
  apply List.ext_getElem
  · simp [h]
  · intro i hi _
    simp [hi]

theorem le1_byteAt (b : List Byte) (i : Nat) : le 1 (byteAt b i) = [b.getD i 0#8] := by
  rw [le, le, ofNat_byteAt]

theorem ofNat_low (x : Byte) (v : Nat) : BitVec.ofNat 8 (x.toNat + 256 * v) = x := by
  apply BitVec.eq_of_toNat_eq
  have hx : x.toNat < 256 := x.isLt
  rw [BitVec.toNat_ofNat]
  omega

theorem le_cons (n : Nat) (x : Byte) (v : Nat) : le (n + 1) (x.toNat + 256 * v) = x :: le n v := by
  have hx : x.toNat < 256 := x.isLt
  have rest : (x.toNat + 256 * v) / 256 = v := by omega
  rw [le, ofNat_low, rest]

theorem le2_u16At (b : List Byte) (i : Nat) : le 2 (u16At b i) = [b.getD i 0#8, b.getD (i + 1) 0#8] := by
  rw [u16At, byteAt, le_cons, le1_byteAt]

theorem le4_u32At (b : List Byte) (i : Nat) :
    le 4 (u32At b i) = [b.getD i 0#8, b.getD (i + 1) 0#8, b.getD (i + 2) 0#8, b.getD (i + 3) 0#8] := by
  have split_low : u32At b i
      = (b.getD i 0#8).toNat + 256 * ((b.getD (i + 1) 0#8).toNat + 256 * u16At b (i + 2)) := by
    simp only [u32At, u16At, byteAt]
    omega
  rw [split_low, le_cons, le_cons, le2_u16At]

theorem le8_u64At (b : List Byte) (i : Nat) :
    le 8 (u64At b i) = [b.getD i 0#8, b.getD (i + 1) 0#8, b.getD (i + 2) 0#8, b.getD (i + 3) 0#8, b.getD (i + 4) 0#8,
      b.getD (i + 5) 0#8, b.getD (i + 6) 0#8, b.getD (i + 7) 0#8] := by
  have split_low : u64At b i
      = (b.getD i 0#8).toNat + 256 * ((b.getD (i + 1) 0#8).toNat + 256 * ((b.getD (i + 2) 0#8).toNat
        + 256 * ((b.getD (i + 3) 0#8).toNat + 256 * u32At b (i + 4)))) := by
    simp only [u64At, u32At, u16At, byteAt, Nat.add_assoc, Nat.reduceAdd]
    omega
  rw [split_low, le_cons, le_cons, le_cons, le_cons, le4_u32At]

theorem u16At_lt (b : List Byte) (i : Nat) : u16At b i < 65536 := by
  have := byteAt_lt b i
  have := byteAt_lt b (i + 1)
  unfold u16At
  omega

theorem u32At_lt (b : List Byte) (i : Nat) : u32At b i < 4294967296 := by
  have := u16At_lt b i
  have := u16At_lt b (i + 2)
  unfold u32At
  omega

/-- Two's complement of 16 bits is read back. -/
theorem leInt2_i16At (b : List Byte) (i : Nat) : leInt 2 (i16At b i) = le 2 (u16At b i) := by
  have small := u16At_lt b i
  rw [leInt2, i16At, signed]
  congr 1
  simp only [show (2 : Nat) ^ (16 - 1) = 32768 from rfl, show (2 : Nat) ^ 16 = 65536 from rfl]
  split <;> omega

theorem leInt4_i32At (b : List Byte) (i : Nat) : leInt 4 (i32At b i) = le 4 (u32At b i) := by
  have small := u32At_lt b i
  rw [leInt4, i32At, signed]
  congr 1
  simp only [show (2 : Nat) ^ (32 - 1) = 2147483648 from rfl, show (2 : Nat) ^ 32 = 4294967296 from rfl]
  split <;> omega

theorem leInt4_u32At (b : List Byte) (i : Nat) : leInt 4 (u32At b i : Int) = le 4 (u32At b i) := by
  have small := u32At_lt b i
  rw [leInt4]
  congr 1
  omega

theorem leInt2_u16At (b : List Byte) (i : Nat) : leInt 2 (u16At b i : Int) = le 2 (u16At b i) := by
  have small := u16At_lt b i
  rw [leInt2]
  congr 1
  omega

/-! ## Single values -/

theorem check_eq_some {α : Type} {ok : Bool} {v w : α} : check ok v = some w ↔ ok = true ∧ v = w := by
  cases ok <;> simp [check]

theorem fourOf_eq_some {v : Nat} {n : Fin 4} : fourOf v = some n ↔ v = n.val := by
  unfold fourOf
  split
  · next h => rw [Option.some.injEq, Fin.ext_iff]
  · next h =>
    have := n.isLt
    constructor
    · exact fun e => nomatch e
    · omega

theorem boolOf_eq_some {v : Nat} {x : Bool} : boolOf v = some x ↔ v = (flagByte x).toNat := by
  unfold boolOf
  cases x <;> simp [flagByte]
  all_goals split <;> simp_all

theorem setOf_eq_some {v : Nat} {m : BitVec 4} : setOf v = some m ↔ v = m.toNat := by
  unfold setOf
  split
  · next h => rw [Option.some.injEq, ← BitVec.toNat_inj, BitVec.toNat_ofNat, Nat.mod_eq_of_lt h]
  · next h =>
    have := m.isLt
    constructor
    · exact fun e => nomatch e
    · omega

theorem kindOf_eq_some {v : Nat} {k : FilterKind} : kindOf v = some k ↔ v = k.number := by
  constructor
  · intro h
    unfold kindOf at h
    split at h <;> cases h <;> rfl
  · rintro rfl
    cases k <;> rfl

theorem within_eq_true {lo hi v : Nat} : within lo hi v = true ↔ lo ≤ v ∧ v ≤ hi := by simp [within]

theorem withinInt_eq_true {lo hi v : Int} : withinInt lo hi v = true ↔ lo ≤ v ∧ v ≤ hi := by simp [withinInt]

/-- A byte whose value is read is the byte of that value. -/
theorem getD_of_byteAt {b : List Byte} {i v : Nat} (h : byteAt b i = v) : b.getD i 0#8 = BitVec.ofNat 8 v := by
  rw [← h, ofNat_byteAt]

theorem getD_of_flag {b : List Byte} {i : Nat} {x : Bool} (h : byteAt b i = (flagByte x).toNat) :
    b.getD i 0#8 = flagByte x := by
  apply BitVec.eq_of_toNat_eq
  exact h

/-- A reserved field of two bytes. -/
theorem getD_of_u16At_zero {b : List Byte} {i : Nat} (h : u16At b i = 0) :
    b.getD i 0#8 = 0#8 ∧ b.getD (i + 1) 0#8 = 0#8 := by
  unfold u16At at h
  exact ⟨getD_of_byteAt (by omega), getD_of_byteAt (by omega)⟩

/-! ## Forms of a station, a group or two values -/

theorem stationBody_inv {b : List Byte} {n : Station} (hl : b.length = 1) (h : stationBody b = some n) :
    b = stationForm n := by
  have station := getD_of_byteAt (fourOf_eq_some.mp h)
  rw [eq_map_getD b 1 hl, stationForm, ← station]
  rfl

theorem groupReadBody_inv {b : List Byte} {g : GroupId} (hl : b.length = 1) (h : groupReadBody b = some g) :
    b = groupReadForm g :=
  stationBody_inv hl h

theorem groupBody_inv {b : List Byte} {g : GroupId} (hl : b.length = 2) (h : groupBody b = some g) :
    b = groupForm g := by
  simp only [groupBody, Option.bind_eq_some_iff, check_eq_some, beq_iff_eq] at h
  obtain ⟨k, hk, reserved, rfl⟩ := h
  have group := getD_of_byteAt (fourOf_eq_some.mp hk)
  refine (eq_map_getD b 2 hl).trans ?_
  show [b.getD 0 0#8, b.getD 1 0#8] = _
  rw [group, getD_of_byteAt reserved]
  rfl

theorem linkEnableBody_inv {b : List Byte} {n : Station} {v : Bool} (hl : b.length = 2)
    (h : linkEnableBody b = some (n, v)) : b = linkEnableForm n v := by
  simp only [linkEnableBody, Option.bind_eq_some_iff, Option.map_eq_some_iff, Prod.mk.injEq] at h
  obtain ⟨k, hk, w, hw, rfl, rfl⟩ := h
  have station := getD_of_byteAt (fourOf_eq_some.mp hk)
  rw [eq_map_getD b 2 hl, linkEnableForm, ← station, ← getD_of_flag (boolOf_eq_some.mp hw)]
  rfl

theorem capabilityBody_inv {b : List Byte} {o l : Nat} (hl : b.length = 2) (h : capabilityBody b = some (o, l)) :
    o ≤ 9 ∧ 1 ≤ l ∧ l ≤ 10 ∧ o + l ≤ 10 ∧ b = capabilityForm o l := by
  simp only [capabilityBody, check_eq_some, Bool.and_eq_true, within_eq_true, decide_eq_true_eq, Prod.mk.injEq] at h
  obtain ⟨⟨⟨⟨_, offset⟩, low, high⟩, inside⟩, rfl, rfl⟩ := h
  refine ⟨offset, low, high, inside, ?_⟩
  rw [capabilityForm, le1_byteAt, le1_byteAt]
  exact eq_map_getD b 2 hl

theorem tagBody_inv {b : List Byte} {v : Nat} (hl : b.length = 4) (h : tagBody b = some v) :
    v < 65536 ∧ b = tagForm v := by
  simp only [tagBody, check_eq_some, beq_iff_eq] at h
  obtain ⟨reserved, rfl⟩ := h
  obtain ⟨r2, r3⟩ := getD_of_u16At_zero reserved
  refine ⟨u16At_lt b 0, ?_⟩
  refine (eq_map_getD b 4 hl).trans ?_
  show [b.getD 0 0#8, b.getD 1 0#8, b.getD 2 0#8, b.getD 3 0#8] = _
  rw [r2, r3, tagForm, le2_u16At]
  rfl

theorem permitTimeBody_inv {b : List Byte} {v : Nat} (hl : b.length = 4) (h : permitTimeBody b = some v) :
    100 ≤ v ∧ v ≤ 60000 ∧ b = permitTimeForm v := by
  simp only [permitTimeBody, check_eq_some, Bool.and_eq_true, within_eq_true, beq_iff_eq] at h
  obtain ⟨⟨⟨low, high⟩, reserved⟩, rfl⟩ := h
  exact ⟨low, high, (tagBody_inv hl (check_eq_some.mpr ⟨beq_iff_eq.mpr reserved, rfl⟩)).2⟩

theorem maskBody_inv {b : List Byte} {m : BitVec 4} (hl : b.length = 2) (h : maskBody b = some m) :
    b = maskForm m := by
  simp only [maskBody, Option.bind_eq_some_iff, check_eq_some, beq_iff_eq] at h
  obtain ⟨k, hk, reserved, rfl⟩ := h
  refine (eq_map_getD b 2 hl).trans ?_
  show [b.getD 0 0#8, b.getD 1 0#8] = _
  rw [getD_of_byteAt (setOf_eq_some.mp hk), getD_of_byteAt reserved]
  rfl

theorem filterSetBody_inv {b : List Byte} {k : FilterKind} {v : Nat} (hl : b.length = 4)
    (h : filterSetBody b = some (k, v)) : v ≤ 30000 ∧ b = filterSetForm k v := by
  simp only [filterSetBody, Option.bind_eq_some_iff, check_eq_some, Bool.and_eq_true, within_eq_true, beq_iff_eq,
    Prod.mk.injEq] at h
  obtain ⟨k, hk, ⟨reserved, _, high⟩, rfl, rfl⟩ := h
  refine ⟨high, (eq_map_getD b 4 hl).trans ?_⟩
  show [b.getD 0 0#8, b.getD 1 0#8, b.getD 2 0#8, b.getD 3 0#8] = _
  rw [getD_of_byteAt (kindOf_eq_some.mp hk), getD_of_byteAt reserved, filterSetForm, le2_u16At]
  rfl

theorem sourceEnableBody_inv {b : List Byte} {k : FilterKind} {v : Bool} (hl : b.length = 4)
    (h : sourceEnableBody b = some (k, v)) : b = sourceEnableForm k v := by
  simp only [sourceEnableBody, Option.bind_eq_some_iff, check_eq_some, beq_iff_eq, Prod.mk.injEq] at h
  obtain ⟨k, hk, v, hv, reserved, rfl, rfl⟩ := h
  obtain ⟨r2, r3⟩ := getD_of_u16At_zero reserved
  refine (eq_map_getD b 4 hl).trans ?_
  show [b.getD 0 0#8, b.getD 1 0#8, b.getD 2 0#8, b.getD 3 0#8] = _
  rw [getD_of_byteAt (kindOf_eq_some.mp hk), getD_of_flag (boolOf_eq_some.mp hv), r2, r3]
  rfl

theorem flagSetBody_inv {b : List Byte} {w : BitVec 34} (hl : b.length = 8) (h : flagSetBody b = some w) :
    b = flagSetForm w := by
  simp only [flagSetBody, check_eq_some, decide_eq_true_eq] at h
  obtain ⟨small, rfl⟩ := h
  rw [flagSetForm, BitVec.toNat_ofNat, Nat.mod_eq_of_lt small, le8_u64At]
  exact eq_map_getD b 8 hl

theorem forceSetBody_inv {b : List Byte} {x y : Bool} (hl : b.length = 4) (h : forceSetBody b = some (x, y)) :
    b = forceSetForm x y := by
  simp only [forceSetBody, Option.bind_eq_some_iff, check_eq_some, beq_iff_eq, Prod.mk.injEq] at h
  obtain ⟨x, hx, y, hy, reserved, rfl, rfl⟩ := h
  obtain ⟨r2, r3⟩ := getD_of_u16At_zero reserved
  refine (eq_map_getD b 4 hl).trans ?_
  show [b.getD 0 0#8, b.getD 1 0#8, b.getD 2 0#8, b.getD 3 0#8] = _
  rw [getD_of_flag (boolOf_eq_some.mp hx), getD_of_flag (boolOf_eq_some.mp hy), r2, r3]
  rfl

theorem fetchBody_inv {b : List Byte} {v : Nat} (hl : b.length = 2) (h : fetchBody b = some v) :
    v ≤ 8 ∧ b = fetchForm v := by
  simp only [fetchBody, check_eq_some, Bool.and_eq_true, within_eq_true, beq_iff_eq] at h
  obtain ⟨⟨⟨_, high⟩, reserved⟩, rfl⟩ := h
  refine ⟨high, (eq_map_getD b 2 hl).trans ?_⟩
  show [b.getD 0 0#8, b.getD 1 0#8] = _
  rw [getD_of_byteAt reserved, fetchForm, le1_byteAt]
  rfl

theorem windowOpenBody_inv {b : List Byte} {g : GroupId} {v : Nat} (hl : b.length = 4)
    (h : windowOpenBody b = some (g, v)) : v ≤ 10000 ∧ b = windowOpenForm g v := by
  simp only [windowOpenBody, Option.bind_eq_some_iff, check_eq_some, Bool.and_eq_true, within_eq_true, beq_iff_eq,
    Prod.mk.injEq] at h
  obtain ⟨g, hg, ⟨reserved, _, high⟩, rfl, rfl⟩ := h
  refine ⟨high, (eq_map_getD b 4 hl).trans ?_⟩
  show [b.getD 0 0#8, b.getD 1 0#8, b.getD 2 0#8, b.getD 3 0#8] = _
  rw [getD_of_byteAt (fourOf_eq_some.mp hg), getD_of_byteAt reserved, windowOpenForm, le2_u16At]
  rfl

theorem ringReadBody_inv {b : List Byte} {q : RingQuery} (hl : b.length = 6) (h : ringReadBody b = some q) :
    RingRange q.start q.length q.page ∧ b = ringReadForm q.group q.start q.length q.wrap q.page := by
  simp only [ringReadBody, Option.bind_eq_some_iff, check_eq_some, Bool.and_eq_true, Bool.or_eq_true, within_eq_true,
    beq_iff_eq, decide_eq_true_eq] at h
  obtain ⟨g, hg, w, hw, ⟨⟨⟨⟨_, start⟩, length⟩, page⟩, reserved⟩, rfl⟩ := h
  refine ⟨⟨start, or_assoc.mp length, page⟩, (eq_map_getD b 6 hl).trans ?_⟩
  show [b.getD 0 0#8, b.getD 1 0#8, b.getD 2 0#8, b.getD 3 0#8, b.getD 4 0#8, b.getD 5 0#8] = _
  rw [getD_of_byteAt (fourOf_eq_some.mp hg), getD_of_flag (boolOf_eq_some.mp hw), getD_of_byteAt reserved,
    ringReadForm, le1_byteAt, le1_byteAt, le1_byteAt]
  rfl

/-! ## Records, settings, definitions and segments -/

/-- The reader's own checks give the ranges, whatever the length. -/
theorem calWriteBody_inRange {b : List Byte} {n : Station} {k : CalConstants} (h : calWriteBody b = some (n, k)) :
    k.InRange := by
  simp only [calWriteBody, Option.bind_eq_some_iff, check_eq_some, Bool.and_eq_true, within_eq_true,
    Prod.mk.injEq] at h
  obtain ⟨_, _, ⟨⟨⟨_, circumference⟩, mass⟩, lines⟩, _, rfl⟩ := h
  exact ⟨circumference.1, circumference.2, mass.1, mass.2, lines.1, lines.2⟩

theorem calWriteBody_inv {b : List Byte} {n : Station} {k : CalConstants} (hl : b.length = 10)
    (h : calWriteBody b = some (n, k)) : b = calWriteForm n k := by
  simp only [calWriteBody, Option.bind_eq_some_iff, check_eq_some, Bool.and_eq_true, beq_iff_eq, Prod.mk.injEq] at h
  obtain ⟨n, hn, ⟨⟨⟨reserved, _⟩, _⟩, _⟩, rfl, rfl⟩ := h
  refine (eq_map_getD b 10 hl).trans ?_
  show [b.getD 0 0#8, b.getD 1 0#8, b.getD 2 0#8, b.getD 3 0#8, b.getD 4 0#8, b.getD 5 0#8, b.getD 6 0#8,
    b.getD 7 0#8, b.getD 8 0#8, b.getD 9 0#8] = _
  rw [getD_of_byteAt (fourOf_eq_some.mp hn), getD_of_byteAt reserved, calWriteForm, le4_u32At, le2_u16At, le2_u16At]
  rfl

/-- The reader's own checks give the ranges, whatever the length; the link enable is kept. -/
theorem stationSetBody_inv {b : List Byte} {n : Station} {f : Settings → Settings}
    (h : stationSetBody b = some (n, f)) :
    ∃ t : Settings, t.InRange ∧ (b.length = 16 → b = stationSetForm n t)
      ∧ f = fun old => { t with linkEnable := old.linkEnable } := by
  simp only [stationSetBody, Option.bind_eq_some_iff, check_eq_some, Bool.and_eq_true, Bool.or_eq_true, within_eq_true,
    beq_iff_eq, bne_iff_ne, Prod.mk.injEq] at h
  obtain ⟨n, hn, inv, hi, chk, hc, cls, hk, auto, ha, ⟨⟨⟨⟨⟨⟨decode, _, tolerance⟩, classes⟩, reserved⟩, overspeed⟩,
    force⟩, mismatch⟩, rfl, rfl⟩ := h
  let t : Settings :=
    { decode := byteAt b 1, invert := inv, checkIndex := chk, tolerance := byteAt b 4, overspeedLimit := u32At b 8,
      forceLimit := u16At b 12, mismatchLimit := u16At b 14, classes := cls, autoRenegotiate := auto,
      linkEnable := false }
  have inRange : t.InRange :=
    ⟨or_assoc.mp decode, tolerance, overspeed.1, overspeed.2, force.1, force.2, mismatch.1, mismatch.2, classes⟩
  refine ⟨t, inRange, fun hl => (eq_map_getD b 16 hl).trans ?_, rfl⟩
  show [b.getD 0 0#8, b.getD 1 0#8, b.getD 2 0#8, b.getD 3 0#8, b.getD 4 0#8, b.getD 5 0#8, b.getD 6 0#8,
    b.getD 7 0#8, b.getD 8 0#8, b.getD 9 0#8, b.getD 10 0#8, b.getD 11 0#8, b.getD 12 0#8, b.getD 13 0#8,
    b.getD 14 0#8, b.getD 15 0#8] = _
  rw [getD_of_byteAt (fourOf_eq_some.mp hn), getD_of_flag (boolOf_eq_some.mp hi), getD_of_flag (boolOf_eq_some.mp hc),
    getD_of_byteAt (setOf_eq_some.mp hk), getD_of_flag (boolOf_eq_some.mp ha), getD_of_byteAt reserved]
  simp only [t, stationSetForm, le4_u32At, le2_u16At, le1_byteAt]
  rfl

theorem tuning_inRange {t : Tuning} (h : t.ok = true) : t.InRange := by
  simp only [Tuning.ok, Bool.and_eq_true, within_eq_true, decide_eq_true_eq] at h
  omega

theorem tuningForm_at (b : List Byte) (i : Nat) :
    tuningForm (tuningAt b i) = (List.range 18).map fun j => b.getD (i + j) 0#8 := by
  simp only [tuningForm, tuningAt, le4_u32At, le2_u16At]
  rfl

/-- The reader's own checks give the ranges, whatever the length. -/
theorem groupTuneBody_inRange {b : List Byte} {g : GroupId} {t : Tuning} (h : groupTuneBody b = some (g, t)) :
    t.InRange := by
  simp only [groupTuneBody, Option.bind_eq_some_iff, check_eq_some, Bool.and_eq_true, Prod.mk.injEq] at h
  obtain ⟨_, _, ⟨_, ok⟩, _, rfl⟩ := h
  exact tuning_inRange ok

theorem groupTuneBody_inv {b : List Byte} {g : GroupId} {t : Tuning} (hl : b.length = 20)
    (h : groupTuneBody b = some (g, t)) : b = groupTuneForm g t := by
  simp only [groupTuneBody, Option.bind_eq_some_iff, check_eq_some, Bool.and_eq_true, beq_iff_eq, Prod.mk.injEq] at h
  obtain ⟨g, hg, ⟨reserved, _⟩, rfl, rfl⟩ := h
  refine (eq_map_getD b 20 hl).trans ?_
  rw [groupTuneForm, tuningForm_at, ← getD_of_byteAt (fourOf_eq_some.mp hg)]
  show _ :: b.getD 1 0#8 :: _ = _
  rw [getD_of_byteAt reserved]
  rfl

theorem distinct_iff (ms : List Member) : distinct ms = true ↔ (ms.map (·.station)).Nodup := by
  induction ms with
  | nil => simp [distinct]
  | cons m ms ih => simp [distinct, ih]

/-- Entry `j` of the members read is the pair of fields at its place; beyond the members there is none. -/
theorem memberEntries_getD {b : List Byte} {n : Nat} : ∀ {i : Nat} {ms : List Member}, memberEntries b i n = some ms →
    ms.length = n ∧ ∀ j, j < n → (ms.map (·.station.val)).getD j 0 = byteAt b (4 + (i + j))
      ∧ (ms.map (·.share)).getD j 0 = u16At b (8 + 2 * (i + j)) := by
  induction n with
  | zero =>
    intro i ms h
    cases h
    exact ⟨rfl, fun j hj => absurd hj (Nat.not_lt_zero j)⟩
  | succ n ih =>
    intro i ms h
    simp only [memberEntries, Option.bind_eq_some_iff, Option.map_eq_some_iff] at h
    obtain ⟨s, station, rest, entries, rfl⟩ := h
    obtain ⟨length, each⟩ := ih entries
    refine ⟨congrArg Nat.succ length, fun j hj => ?_⟩
    cases j with
    | zero => exact ⟨(fourOf_eq_some.mp station).symm, rfl⟩
    | succ j =>
      rw [show i + (j + 1) = i + 1 + j by omega]
      exact each j (Nat.lt_of_succ_lt_succ hj)

/-- The four fields of stations and of shares are those of the members and 0 beyond them. -/
theorem entries_getD {b : List Byte} {n : Nat} {ms : List Member} (h : memberEntries b 0 n = some ms)
    (rest : restZero b n = true) {j : Nat} (hj : j < 4) :
    (ms.map (·.station.val)).getD j 0 = byteAt b (4 + j) ∧ (ms.map (·.share)).getD j 0 = u16At b (8 + 2 * j) := by
  obtain ⟨length, each⟩ := memberEntries_getD h
  by_cases inside : j < n
  · have entry := each j inside
    rwa [Nat.zero_add] at entry
  · have zero := List.all_eq_true.mp rest j (List.mem_range.mpr hj)
    simp only [inside, decide_false, Bool.false_or, Bool.and_eq_true, beq_iff_eq] at zero
    rw [zero.1, zero.2]
    constructor <;> apply List.getD_eq_default <;> simp only [List.length_map] <;> omega

theorem groupKindOf_eq_some {v : Nat} {k : GroupKind} :
    groupKindOf v = some k ↔ v = match k with | .linked => 0 | .averaged => 1 := by
  unfold groupKindOf
  split
  · next zero => cases k <;> simp [zero]
  · next other =>
    split
    · next one => cases k <;> simp [one]
    · next larger => cases k <;> simp [other, larger]

/-- The reader's own checks give the ranges, whatever the length. -/
theorem groupDefineBody_inRange {b : List Byte} {g : GroupId} {d : GroupDef} (h : groupDefineBody b = some (g, d)) :
    d.InRange := by
  simp only [groupDefineBody, Option.bind_eq_some_iff, check_eq_some, Bool.and_eq_true, Bool.or_eq_true,
    within_eq_true, beq_iff_eq, distinct_iff, Prod.mk.injEq] at h
  obtain ⟨_, _, kind, _, n, ⟨count, rfl⟩, ms, entries, ⟨⟨⟨⟨⟨⟨⟨⟨_, apart⟩, _⟩, sum⟩, _⟩, period⟩, tuning⟩, ramp⟩,
    timeout⟩, _, rfl⟩ := h
  have length := (memberEntries_getD entries).1
  rw [or_assoc, or_assoc] at period
  exact ⟨length ▸ count.1, length ▸ count.2, apart, sum, period, tuning_inRange tuning, ramp.2, timeout⟩

theorem groupDefineBody_inv {b : List Byte} {g : GroupId} {d : GroupDef} (hl : b.length = 40)
    (h : groupDefineBody b = some (g, d)) : b = groupDefineForm g d := by
  simp only [groupDefineBody, Option.bind_eq_some_iff, check_eq_some, Bool.and_eq_true, Bool.or_eq_true,
    within_eq_true, beq_iff_eq, distinct_iff, Prod.mk.injEq] at h
  obtain ⟨g, hg, kind, hk, n, ⟨_, rfl⟩, ms, entries, ⟨⟨⟨⟨⟨⟨⟨⟨reserved, _⟩, _⟩, _⟩, rest⟩, _⟩, _⟩, _⟩, _⟩, rfl, rfl⟩ := h
  have length := (memberEntries_getD entries).1
  have e0 := entries_getD entries rest (j := 0) (by decide)
  have e1 := entries_getD entries rest (j := 1) (by decide)
  have e2 := entries_getD entries rest (j := 2) (by decide)
  have e3 := entries_getD entries rest (j := 3) (by decide)
  simp only [groupDefineForm, fourFields, e0, e1, e2, e3, length, le1_byteAt, le2_u16At, tuningForm_at]
  refine (eq_map_getD b 40 hl).trans ?_
  show b.getD 0 0#8 :: b.getD 1 0#8 :: b.getD 2 0#8 :: b.getD 3 0#8 :: _ = _
  rw [getD_of_byteAt (fourOf_eq_some.mp hg), getD_of_byteAt (groupKindOf_eq_some.mp hk), getD_of_byteAt reserved]
  cases kind <;> rfl

theorem optionalField_eq_some {flag raw lo hi : Nat} {o : Option Nat} (h : optionalField flag raw lo hi = some o) :
    flag = (present o).toNat ∧ raw = o.getD 0 ∧ ∀ v ∈ o.toList, lo ≤ v ∧ v ≤ hi := by
  simp only [optionalField, Option.bind_eq_some_iff] at h
  obtain ⟨p, flagged, field⟩ := h
  have flagged := boolOf_eq_some.mp flagged
  cases p with
  | true =>
    obtain ⟨inside, rfl⟩ := check_eq_some.mp field
    exact ⟨flagged, rfl, by simpa using within_eq_true.mp inside⟩
  | false =>
    obtain ⟨zero, rfl⟩ := check_eq_some.mp field
    exact ⟨flagged, beq_iff_eq.mp zero, by simp⟩

theorem segmentBody_inv {b : List Byte} {x : Segment} (hl : b.length = 40) (h : segmentBody b = some x) :
    x.InRange ∧ ∃ grade ramp : Bool, (grade = false → x.coeffs.grade = 0) ∧ (ramp = false → x.ramp = 0)
      ∧ b = segmentForm x grade ramp := by
  simp only [segmentBody, Option.bind_eq_some_iff, check_eq_some, Bool.and_eq_true, within_eq_true,
    withinInt_eq_true, beq_iff_eq] at h
  obtain ⟨g, hg, isMark, hm, dur, hd, grade, hgr, ramp, hr, ⟨⟨⟨⟨⟨⟨⟨⟨r5, r6⟩, r7⟩, start⟩, a⟩, bb⟩, c⟩, mass⟩, gr⟩, rfl⟩ := h
  obtain ⟨durFlag, durField, durRange⟩ := optionalField_eq_some hd
  obtain ⟨rampFlag, rampField, rampRange⟩ := optionalField_eq_some hr
  have form : b = segmentForm
      { group := g, basis := if isMark then .mark else .absolute, start := u64At b 8, duration := dur,
        coeffs := { a := u32At b 20, b := i32At b 24, c := u32At b 28, mass := u16At b 32, grade := i16At b 34 },
        ramp := ramp.getD 0, tag := u16At b 38, arrival := 0 } grade ramp.isSome := by
    simp only [segmentForm, ← rampField, ← durField, leInt4_u32At, leInt4_i32At, leInt2_u16At, leInt2_i16At, le8_u64At,
      le4_u32At, le2_u16At]
    refine (eq_map_getD b 40 hl).trans ?_
    show b.getD 0 0#8 :: b.getD 1 0#8 :: b.getD 2 0#8 :: b.getD 3 0#8 :: b.getD 4 0#8 :: b.getD 5 0#8 :: b.getD 6 0#8
      :: b.getD 7 0#8 :: _ = _
    rw [getD_of_byteAt (fourOf_eq_some.mp hg), getD_of_flag (boolOf_eq_some.mp hm), getD_of_flag durFlag,
      getD_of_flag (boolOf_eq_some.mp hgr), getD_of_flag rampFlag, getD_of_byteAt r5, getD_of_byteAt r6,
      getD_of_byteAt r7]
    cases isMark <;> rfl
  have absolute : isMark = false → u64At b 8 < 2 ^ 48 := by
    rintro rfl
    exact of_decide_eq_true start
  have mark : isMark = true → u64At b 8 < 2 ^ 32 := by
    rintro rfl
    exact of_decide_eq_true start
  have gradeRange : -10000 ≤ i16At b 34 ∧ i16At b 34 ≤ 10000 ∧ (grade = false → i16At b 34 = 0) := by
    cases grade with
    | true => exact ⟨(withinInt_eq_true.mp gr).1, (withinInt_eq_true.mp gr).2, fun h => nomatch h⟩
    | false =>
      have zero : i16At b 34 = 0 := beq_iff_eq.mp gr
      exact ⟨by omega, by omega, fun _ => zero⟩
  have rampBound : ramp.getD 0 ≤ 5000 ∧ (ramp.isSome = false → ramp.getD 0 = 0) := by
    cases ramp with
    | none => exact ⟨Nat.zero_le _, fun _ => rfl⟩
    | some v => exact ⟨(rampRange v (by simp)).2, fun h => nomatch h⟩
  refine ⟨⟨?_, ?_, durRange, ?_, ?_, bb.1, bb.2, ?_, ?_, ?_, ?_, gradeRange.1, gradeRange.2.1, rampBound.1,
    u16At_lt b 38⟩, grade, ramp.isSome, gradeRange.2.2, rampBound.2, form⟩
  · cases isMark
    · exact fun _ => absolute rfl
    · exact fun h => nomatch h
  · cases isMark
    · exact fun h => nomatch h
    · exact fun _ => mark rfl
  all_goals
    dsimp only
    omega

end Sys2Proof.Machine
end

section
/-! SUPPORT. The statement on invalid forms: a body that is not of its request's valid form is answered with BAD_VALUE, and no block changes (R186, R187). -/

set_option Elab.async false

namespace Sys2Proof.Machine

/-- A request of the right length whose body is not of its valid form is refused before its own rule reads the state. -/
theorem perform_invalid (k : ReqKind) (held : Bool) (b : List Byte) (s : State) (hl : b.length = k.bodyLength)
    (invalid : ¬ ValidBody k b) : perform k held b s = (s, refuse .badValue) := by
  have unread {α : Type} {o : Option α} (h : ∀ a, o = some a → ValidBody k b) : o = none :=
    Option.eq_none_iff_forall_ne_some.mpr fun a ha => invalid (h a ha)
  cases k with
  | clockRead | markArm | markRead | calState | scheduleRead | permitRead | flagsRead | cellStatus | portCounters
  | resetPrepare | resetExecute => exact absurd (List.eq_nil_of_length_eq_zero hl) invalid
  | encoderRead | encoderCounters | linkRestart | linkStatus | linkCounters | calRead | calLock | stationRead =>
    have none := unread fun n h => ⟨n, stationBody_inv hl h⟩
    simp only [perform, reqEncoderRead, reqEncoderCounters, reqLinkRestart, reqLinkStatus, reqLinkCounters, reqCalRead,
      reqCalLock, reqStationRead, none]
  | groupRead =>
    have none := unread fun g h => ⟨g, groupReadBody_inv hl h⟩
    simp only [perform, reqGroupRead, none]
  | engage | release | disband | segmentFlush | windowRead | windowClose | ringFreeze | ringUnfreeze =>
    have none := unread fun g h => ⟨g, groupBody_inv hl h⟩
    simp only [perform, reqEngage, reqRelease, reqDisband, reqSegmentFlush, reqWindowRead, reqWindowClose,
      reqRingFreeze, reqRingUnfreeze, none]
  | linkEnable =>
    have none := unread fun (n, on) h => ⟨n, on, linkEnableBody_inv hl h⟩
    simp only [perform, reqLinkEnable, none]
  | calWrite =>
    have none := unread fun (n, c) h => ⟨n, c, calWriteBody_inRange h, calWriteBody_inv hl h⟩
    simp only [perform, reqCalWrite, none]
  | capabilityRead =>
    have none := unread fun (o, l) h => ⟨o, l, capabilityBody_inv hl h⟩
    simp only [perform, reqCapabilityRead, none]
  | stationSet =>
    have none := unread fun (n, f) h =>
      have ⟨x, inRange, form, _⟩ := stationSetBody_inv h
      ⟨n, x, inRange, form hl⟩
    simp only [perform, reqStationSet, none]
  | groupDefine =>
    have none := unread fun (g, d) h => ⟨g, d, groupDefineBody_inRange h, groupDefineBody_inv hl h⟩
    simp only [perform, reqGroupDefine, none]
  | groupTune =>
    have none := unread fun (g, x) h => ⟨g, x, groupTuneBody_inRange h, groupTuneBody_inv hl h⟩
    simp only [perform, reqGroupTune, none]
  | segmentQueue =>
    have none := unread fun x h =>
      have ⟨inRange, grade, ramp, gradeZero, rampZero, form⟩ := segmentBody_inv hl h
      ⟨x, grade, ramp, inRange, gradeZero, rampZero, form⟩
    simp only [perform, reqSegmentQueue, none]
  | segmentCancel =>
    have none := unread fun v h => ⟨v, tagBody_inv hl h⟩
    simp only [perform, reqSegmentCancel, none]
  | permitTime =>
    have none := unread fun v h => ⟨v, permitTimeBody_inv hl h⟩
    simp only [perform, reqPermitTime, none]
  | permitGrant | permitRenew =>
    have none := unread fun m h => ⟨m, maskBody_inv hl h⟩
    simp only [perform, reqPermitGrant, reqPermitRenew, none]
  | filterSet =>
    have none := unread fun (c, v) h => ⟨c, v, filterSetBody_inv hl h⟩
    simp only [perform, reqFilterSet, none]
  | sourceEnable =>
    have none := unread fun (c, on) h => ⟨c, on, sourceEnableBody_inv hl h⟩
    simp only [perform, reqSourceEnable, none]
  | flagsClear | noticeMask =>
    have none := unread fun w h => ⟨w, flagSetBody_inv hl h⟩
    simp only [perform, reqFlagsClear, reqNoticeMask, none]
  | forceSet =>
    have none := unread fun (x, y) h => ⟨x, y, forceSetBody_inv hl h⟩
    simp only [perform, reqForceSet, none]
  | excursionFetch =>
    have none := unread fun v h => ⟨v, fetchBody_inv hl h⟩
    simp only [perform, reqExcursionFetch, none]
  | windowOpen =>
    have none := unread fun (g, v) h => ⟨g, v, windowOpenBody_inv hl h⟩
    simp only [perform, reqWindowOpen, none]
  | ringRead =>
    have none := unread fun q h => ⟨q.group, q.start, q.length, q.wrap, q.page, ringReadBody_inv hl h⟩
    simp only [perform, reqRingRead, none]

/-- Of a defined code and the right length the request's own rule is examined (R186). -/
theorem examine_defined (k : ReqKind) (tag : Byte) (b : List Byte) (held : Bool) (s : State)
    (hl : b.length = k.bodyLength) : examine ⟨k.code, tag, b⟩ held s = perform k held b s := by
  unfold examine
  simp only [ReqKind.ofCode_code, hl, if_true]

/-- Settles O58: the three classes of refusal in their order, the last by the inverse of each body's reader. -/
theorem invalidFormsAreRefused : Obligations.InvalidFormsAreRefused := by
  intro s tag b hs hp
  refine ⟨fun c hc => ?_, fun k hl => ?_, fun k hl invalid => ?_⟩
  · show submit c tag b s = _
    unfold submit done
    rw [acceptFrame_idle _ _ hp, takeRequest_unknown c tag b s hc, settle_replied s hs]
  · exact (exec_row k tag b s).trans (submit_badLength k tag b s hs hp hl)
  · have refused := takeRequest_refused ⟨k.code, tag, b⟩ s (st := .badValue) (by decide) (by
      rw [examine_defined k tag b s.port.prepared s.taking hl, perform_invalid k _ b _ hl invalid])
    rw [exec_row, submit, done, acceptFrame_idle _ _ hp, refused, settle_replied s hs]

end Sys2Proof.Machine
end

section
/-! SUPPORT. How the groups and the posted demands can change (chapters 4 and 5): one case per rule, that every request, every event and the end of an event are made of these, and so what any invariant of the groups must be shown for. -/

set_option Elab.async false

namespace Sys2Proof.Machine

/-! ## The moves -/

/-- What stage nine makes of a driving group, but for the SYNC condition, `full` where its ramp has run its length (R101,
R102, R103). -/
inductive Judged (full : Bool) (x : Group) : Group → Prop where
  | confirms (c : Nat) : x.state = .engaging → c ≠ 8 → c ≤ x.confirm + 1 → Judged full x { x with confirm := c }
  | locks : x.state = .engaging → (x.confirm < 8 → full = true) →
      Judged full x { x with confirm := 8, state := .locked, engageDue := none }
  | stays : x.state = .locked → Judged full x x
  | slips (o : OpenSlip) : x.state = .locked → Judged full x { x with state := .slipping, openSlip := some o }
  | peaks (f : OpenSlip → OpenSlip) : x.state = .slipping → Judged full x { x with openSlip := x.openSlip.map f }
  | relocks : x.state = .slipping → Judged full x { x with openSlip := none, state := .locked }

/-- The groups with the posted demands. -/
abbrev GroupTable := Quad Group × Quad Int

/-- The groups and posted demands of a state. -/
def State.table (s : State) : GroupTable := (s.groups, s.posted)

/-- The one change of the groups and posted demands that a rule makes at group `g`. -/
inductive Moved (s : State) (g : GroupId) : GroupTable → Prop where
  | held : (s.groups.get g).state.driving = true →
      Moved s g (s.groups.set g (s.groups.get g).heldBy, zeroedFor (s.groups.get g).members s.posted)
  | tripped : (s.groups.get g).state.running = true →
      Moved s g (s.groups.set g (s.groups.get g).trippedBy, zeroedFor (s.groups.get g).members s.posted)
  | released : (s.groups.get g).state.running = true ∨ (s.groups.get g).state = .tripped →
      Moved s g (s.groups.set g (s.groups.get g).releasedBy, zeroedFor (s.groups.get g).members s.posted)
  | freed : (s.groups.get g).state = .engaging →
      Moved s g (s.groups.set g (s.groups.get g).freed, zeroedFor (s.groups.get g).members s.posted)
  | disbanded : (s.groups.get g).state = .free →
      Moved s g (s.groups.set g (s.groups.get g).disbanded, zeroedFor (s.groups.get g).members s.posted)
  | defined (d : GroupDef) : (s.groups.get g).state = .undefined ∨ (s.groups.get g).state = .free → d.InRange →
      s.takenElsewhere g d.members = false →
      Moved s g (s.groups.set g ((s.groups.get g).defined d), zeroedFor d.members s.posted)
  | tuned (d : GroupDef) (t : Tuning) : (s.groups.get g).state ≠ .undefined → (s.groups.get g).defn = some d →
      t.InRange →
      Moved s g (s.groups.set g { s.groups.get g with defn := some { d with tuning := t } }, s.posted)
  | started (d : GroupDef) : (s.groups.get g).state = .free ∨ (s.groups.get g).state = .held →
      (s.groups.get g).defn = some d → engageRefusal d s = none → Moved s g (startGroup g d s).table
  | driven (d : GroupDef) (y : Group) : (s.groups.get g).state.driving = true → (s.groups.get g).defn = some d →
      Judged (rampFull s g d) (s.groups.get g) y → Moved s g (driven s g d y s).table
  | idled (d : GroupDef) : (s.groups.get g).state = .held → (s.groups.get g).defn = some d →
      Moved s g (heldPeriod g d s).table

theorem table_eq {s t : State} (h : t.groups = s.groups ∧ t.posted = s.posted) : t.table = s.table :=
  Prod.ext h.1 h.2

/-! ## A period of a group that slips without a record, which no sound group does -/

theorem stageNine_slipping_noRecord (g : GroupId) (t : Tuning) (full : Bool) (b : PeriodBase) (u : State)
    (h : (u.groups.get g).state = .slipping) (ho : (u.groups.get g).openSlip = none) :
    stageNine g t full b u = u.withGroup g (if relocks t b then
        { u.groups.get g with sync := syncOf t b, state := .locked }
      else { u.groups.get g with sync := syncOf t b }) := by
  simp only [stageNine, h, judgeSlipping, State.withGroup_groups, Quad.get_set_self, ho, Option.map_none]
  split
  · rw [closeExcursion_empty g _ _ (by simp)]
    simp [windowCause, firstCause, withGroup_withGroup]
  · simp only [withGroup_withGroup]

theorem drivingPeriod_slipping_noRecord (s : State) (g : GroupId) (d : GroupDef)
    (h : (s.groups.get g).state = .slipping) (ho : (s.groups.get g).openSlip = none) :
    drivingPeriod g d s = driven s g d
      (if relocks d.tuning (formedBase s g d) then { s.groups.get g with state := .locked } else s.groups.get g) s := by
  rw [drivingPeriod_eq,
    stageNine_slipping_noRecord _ _ _ _ _ (by rw [demanded_group, h]) (by rw [demanded_group, ho]), demanded_group]
  split
  · exact endPeriod_driven s g d _ { s.groups.get g with state := .locked } s rfl rfl rfl rfl rfl rfl
  · exact endPeriod_driven s g d _ (s.groups.get g) s (by simp [h, GroupState.driving]) rfl rfl rfl rfl rfl

theorem windowCause_table (g : GroupId) (r : Option ExcRecord) (own : Option CauseKind) (s : State) :
    (windowCause g r own s).table = s.table :=
  table_eq ⟨windowCause_groups g r own s, windowCause_posted g r own s⟩

theorem Judged.driving {full : Bool} {x y : Group} (j : Judged full x y) : y.state.driving = true := by
  cases j with
  | confirms c hs | stays hs | peaks f hs => simp [hs, GroupState.driving]
  | locks | slips | relocks => rfl

theorem Judged.defn {full : Bool} {x y : Group} (j : Judged full x y) : y.defn = x.defn := by cases j <;> rfl

/-- What a driving period makes of the groups and the posted demands. -/
theorem drivingPeriod_judged (s : State) (g : GroupId) (d : GroupDef) (hd : (s.groups.get g).state.driving = true) :
    ∃ y, Judged (rampFull s g d) (s.groups.get g) y ∧ (drivingPeriod g d s).table = (driven s g d y s).table := by
  have move {y : Group} (hy : Judged (rampFull s g d) (s.groups.get g) y)
      (ht : (drivingPeriod g d s).table = (driven s g d y s).table) : ∃ y, Judged (rampFull s g d) (s.groups.get g) y
        ∧ (drivingPeriod g d s).table = (driven s g d y s).table := ⟨y, hy, ht⟩
  cases h : (s.groups.get g).state with
  | undefined | free | held | tripped => simp [h, GroupState.driving] at hd
  | engaging =>
    have after := drivingPeriod_engaging s g d h
    have count : confirmed s g d ≤ (s.groups.get g).confirm + 1
        ∧ ((s.groups.get g).confirm < 8 → confirmed s g d = 8 → rampFull s g d = true) := by
      unfold confirmed confirmStep
      split
      · cases rampFull s g d with
        | true => simp
        | false =>
          simp
          omega
      · simp
    split at after
    · next h8 => exact move (.locks h fun below => count.2 below h8) (congrArg _ after)
    · next h8 => exact move (.confirms _ h h8 count.1) (congrArg _ after)
  | locked =>
    cases hi : insideWindow (formedBase s g d) d.tuning.lockPosition d.tuning.lockSpeed with
    | true => exact move (.stays h) (congrArg _ (drivingPeriod_locked_inside s g d h hi))
    | false => exact move (.slips _ h) ((congrArg _ (drivingPeriod_locked_outside s g d h hi)).trans rfl)
  | slipping =>
    cases ho : (s.groups.get g).openSlip with
    | none =>
      have after := drivingPeriod_slipping_noRecord s g d h ho
      split at after
      · have relocked := Judged.relocks (full := rampFull s g d) h
        rw [← ho] at relocked
        exact move relocked (congrArg _ after)
      · have peaked := Judged.peaks (full := rampFull s g d) id h
        rw [Option.map_id] at peaked
        exact move peaked (congrArg _ after)
    | some o =>
      cases hr : relocks d.tuning (formedBase s g d) with
      | true =>
        refine move (.relocks h) ((congrArg _ (drivingPeriod_slipping_relocks s g d h o ho hr)).trans ?_)
        exact windowCause_table _ _ _ _
      | false =>
        have peaked := Judged.peaks (full := rampFull s g d) (fun o => o.peak (formedBase s g d)) h
        rw [ho] at peaked
        exact move peaked (congrArg _ (drivingPeriod_slipping_stays s g d h o ho hr))

/-- A driving period is one move. -/
theorem moved_drivingPeriod (s : State) (g : GroupId) (d : GroupDef) (hd : (s.groups.get g).state.driving = true)
    (hx : (s.groups.get g).defn = some d) : Moved s g (drivingPeriod g d s).table := by
  obtain ⟨y, judged, after⟩ := drivingPeriod_judged s g d hd
  exact after ▸ Moved.driven d y hd hx judged

theorem sameBut_drivingPeriod (s : State) (g : GroupId) (d : GroupDef) :
    SameBut (.rings :: claimBlocks) s (drivingPeriod g d s) := by
  have ended (e : RingEntry) (t : State) : SameBut (.rings :: claimBlocks) t (endPeriod g d e t) :=
    (sameBut_withRing t g _).trans (sameBut_withGroup _ g _)
  have staged (t : Tuning) (full : Bool) (b : PeriodBase) (u : State) :
      SameBut (.rings :: claimBlocks) u (stageNine g t full b u) := (sameBut_stageNine u g t full b).mono (by decide)
  rw [drivingPeriod_eq]
  exact (((sameBut_withPosted s _).trans (sameBut_withGroup _ g _)).trans (staged _ _ _ _)).trans (ended _ _)

/-! ## Operations made of claims, trips and periods -/

/-- A fold over the groups whose every step keeps the invariant. -/
theorem foldl_keeps {I : State → Prop} {f : State → GroupId → State} (hf : ∀ t g, I t → I (f t g))
    (gs : List GroupId) {s : State}
    (hs : I s) : I (gs.foldl f s) := by
  induction gs generalizing s with
  | nil => exact hs
  | cons g gs ih => exact ih (hf s g hs)

theorem meets_inner_eq_false {R S bs : List Block} (inner : ∀ b ∈ R, b ∈ S) (h : meets bs S = false) :
    meets bs R = false := by
  rw [← Bool.not_eq_true]
  intro shared
  obtain ⟨b, hb, hR⟩ := List.any_eq_true.mp shared
  exact meets_eq_false h b (inner b (List.contains_iff_mem.mp hR)) hb

/-- The blocks that neither a link, a setting, a permit nor the end of an event changes but through a claim, a trip or a
control period. -/
def coreBlocks : List Block := [.groups, .posted, .exc, .rings, .road, .scheds]

/-- An invariant of such blocks that HELD claims, the trip event, RELEASE, the engage timeout and control periods keep. -/
structure ClaimKept (R : List Block) (I : State → Prop) : Prop where
  inner : ∀ b ∈ R, b ∈ coreBlocks
  reads : ∀ s t, (∀ b ∈ R, b.Same s t) → I s → I t
  held : ∀ g s, (s.groups.get g).state.driving = true → I s → I (claimHeld g s)
  tripped : ∀ g s, (s.groups.get g).state.running = true → I s → I (tripGroup g s)
  released : ∀ g s, (s.groups.get g).state.running = true ∨ (s.groups.get g).state = .tripped → I s →
    I (releaseGroup g s)
  freed : ∀ g s, (s.groups.get g).state = .engaging → I s → I (engageFailed g s)
  driven : ∀ g d s, (s.groups.get g).state.driving = true → (s.groups.get g).defn = some d → I s →
    I (drivingPeriod g d s)
  idled : ∀ g d s, (s.groups.get g).state = .held → (s.groups.get g).defn = some d → I s → I (heldPeriod g d s)

namespace ClaimKept

variable {R : List Block} {I : State → Prop} (K : ClaimKept R I)
include K

/-- A change of other blocks. -/
theorem of_sameBut {bs : List Block} {s t : State} (h : SameBut bs s t) (hm : meets bs coreBlocks = false)
    (hs : I s) : I t :=
  K.reads s t (fun b hb => h b (meets_eq_false hm b (K.inner b hb))) hs

theorem claimHeld_keeps (g : GroupId) {s : State} (hs : I s) : I (claimHeld g s) := by
  cases hd : (s.groups.get g).state.driving with
  | false => exact (claimHeld_idle g s hd).symm ▸ hs
  | true => exact K.held g s hd hs

theorem claimStation_keeps (n : Station) {s : State} (hs : I s) : I (claimStation n s) := by
  unfold claimStation
  split
  · exact K.claimHeld_keeps _ hs
  · exact hs

theorem claimRemoved_keeps (removed : BitVec 4) {s : State} (hs : I s) : I (claimRemoved removed s) :=
  foldl_keeps (fun _ g ht => ite_keeps (K.claimHeld_keeps g ht) ht) allFour hs

theorem tripGroup_keeps (g : GroupId) {s : State} (hs : I s) : I (tripGroup g s) := by
  cases hr : (s.groups.get g).state.running with
  | false => exact (tripGroup_still g s hr).symm ▸ hs
  | true => exact K.tripped g s hr hs

theorem tripEvent_keeps {s : State} (hs : I s) : I (tripEvent s) := by
  have counted : I (s.withMon { s.mon with tripCount := satInc s.mon.tripCount }) :=
    K.of_sameBut (sameBut_withMon s _ rfl rfl rfl rfl (bs := [.mon])) rfl hs
  have withdrawn (p : Permit) : I ((s.withMon { s.mon with tripCount := satInc s.mon.tripCount }).withPermit p) :=
    K.of_sameBut (sameBut_withPermit _ p (bs := [.permit])) rfl counted
  unfold tripEvent
  exact foldl_keeps (f := fun t g => tripGroup g t) (fun _ g ht => K.tripGroup_keeps g ht) allFour (withdrawn _)

theorem settle_keeps {s : State} (hs : I s) : I (settle s) := by
  have handed : I (handConditions s) := K.of_sameBut (sameBut_handConditions s (bs := [.filters])) rfl hs
  have driven {u : State} (hu : I u) : I (driveLines u) := K.of_sameBut (sameBut_driveLines u) rfl hu
  cases fresh : (handConditions s).mon.tripSet && !(handConditions s).mon.tripOut with
  | true =>
    rw [settle_trip s fresh]
    exact driven (K.of_sameBut (sameBut_handConditions _ (bs := [.filters])) rfl (K.tripEvent_keeps handed))
  | false =>
    rw [settle_noTrip s fresh]
    exact driven handed

/-! ## Requests -/

theorem moveLink_keeps (n : Station) (f : Link → Link) {s : State} (hs : I s) : I (moveLink n f s) := by
  have moved (l : Link) : I (s.withLink n l) := K.of_sameBut (sameBut_withLink s n l (bs := [.links])) rfl hs
  unfold moveLink
  exact ite_keeps (K.claimStation_keeps n (moved _)) (moved _)

theorem reqLinkEnable_keeps (body : List Byte) {s : State} (hs : I s) : I (reqLinkEnable body s).1 := by
  unfold reqLinkEnable
  split
  · exact hs
  · next n v _ =>
    have enabled : I (s.withSettings n { s.settings.get n with linkEnable := v }) :=
      K.of_sameBut (sameBut_withSettings s n _ (bs := [.settings])) rfl hs
    split
    · exact ite_keeps (K.of_sameBut (sameBut_withLink _ n _ (bs := [.links])) rfl enabled) enabled
    · exact K.moveLink_keeps n _ enabled

theorem reqLinkRestart_keeps (body : List Byte) {s : State} (hs : I s) : I (reqLinkRestart body s).1 := by
  unfold reqLinkRestart
  split
  · exact hs
  · split
    · exact hs
    · exact K.moveLink_keeps _ _ hs

theorem reqRelease_keeps (body : List Byte) {s : State} (hs : I s) : I (reqRelease body s).1 := by
  have released (g : GroupId) (h : (s.groups.get g).state.running = true ∨ (s.groups.get g).state = .tripped) :
      I (releaseGroup g s) := K.released g s h hs
  unfold reqRelease
  split
  case h_1 => exact hs
  case h_2 g _ =>
    cases h : (s.groups.get g).state with
    | engaging | locked | slipping | held => exact released g (by simp [h, GroupState.running])
    | tripped =>
      dsimp only
      split
      · exact hs
      · exact released g (.inr h)
    | free | undefined => exact hs

theorem reqPermitGrant_keeps (body : List Byte) {s : State} (hs : I s) : I (reqPermitGrant body s).1 := by
  unfold reqPermitGrant
  split
  · exact hs
  · split
    · exact hs
    · split
      · exact hs
      · exact K.claimRemoved_keeps _ (K.of_sameBut (sameBut_withPermit s _ (bs := [.permit])) rfl hs)

/-! ## Events -/

theorem judgeMissing_keeps (n : Station) {s : State} (hs : I s) : I (judgeMissing n s) := by
  have changed (l : Link) : I (s.withLink n l) := K.of_sameBut (sameBut_withLink s n l (bs := [.links])) rfl hs
  unfold judgeMissing
  exact ite_keeps (K.claimStation_keeps n (changed _)) (changed _)

theorem receiveDlk_keeps (n : Station) (f : DlkFrame) {s : State} (hs : I s) : I (receiveDlk n f s) := by
  have changed (l : Link) : I (s.withLink n l) := K.of_sameBut (sameBut_withLink s n l (bs := [.links])) rfl hs
  have spoiled {u : State} (hu : I u) : I (spoiledInUp n u) := by
    unfold spoiledInUp
    split
    · exact hu
    · exact K.judgeMissing_keeps n hu
  have status (g : StatusFrame) : I (statusInUp n g s) := by
    unfold statusInUp
    dsimp only
    split
    · exact hs
    · exact ite_keeps (ite_keeps (changed _) (K.claimStation_keeps n (changed _))) (K.judgeMissing_keeps n hs)
  unfold receiveDlk
  dsimp only
  split
  case h_1 | h_2 | h_3 | h_4 => exact hs
  case h_5 => exact spoiled (changed _)
  case h_6 => exact spoiled hs
  case h_7 => exact status _
  all_goals exact changed _

theorem updateExpiry_keeps (n : Station) {s : State} (hs : I s) : I (updateExpiry n s) := by
  have sent {u : State} (hu : I u) : I (sendFrame n u) :=
    K.of_sameBut (sameBut_withLink u n _ (bs := [.links])) rfl hu
  unfold updateExpiry
  split
  · exact sent hs
  · exact ite_keeps (sent (K.judgeMissing_keeps n hs)) (K.judgeMissing_keeps n hs)

theorem runPeriod_keeps (g : GroupId) {s : State} (hs : I s) : I (runPeriod g s) := by
  unfold runPeriod
  split
  case h_1 d st hd | h_2 d st hd | h_3 d st hd =>
    exact K.driven g d s (by simp [st, GroupState.driving]) hd hs
  case h_4 d st hd => exact K.idled g d s st hd hs
  case h_5 => exact hs

theorem permitExpired_keeps {s : State} (hs : I s) : I (permitExpired s) :=
  K.claimRemoved_keeps _ (K.of_sameBut
    ((sameBut_withPermit s _ (bs := [.permit, .mon])).trans (sameBut_withAlerts _ _)) rfl hs)

/-- The events that change such blocks and make no claim. -/
def isOwnEvent : Instr → Bool
  | .markInEdge | .segmentActivation | .blendStep _ | .durationEnd _ => true
  | _ => false

theorem effect_keeps (i : Instr) (s : State) (hi : meets (eventBlocks i) R = true)
    (own : isOwnEvent i = true → I (effect i s)) (hs : I s) : I (effect i s) := by
  cases i with
  | markInEdge | segmentActivation | blendStep | durationEnd => exact own rfl
  | dlkFrameReceived n f => exact K.receiveDlk_keeps n f hs
  | updateTimerExpiry n => exact ite_keeps (K.updateExpiry_keeps n hs) hs
  | periodTimerExpiry g => exact ite_keeps (K.runPeriod_keeps g hs) hs
  | engageTimerExpiry g =>
    unfold effect
    dsimp only
    split
    · next h => exact K.freed g s h.1 hs
    · exact hs
  | permitTimerExpiry => exact ite_keeps (K.permitExpired_keeps hs) hs
  | _ =>
    rw [meets_inner_eq_false K.inner rfl] at hi
    cases hi

/-- The requests that change such blocks and make no claim. -/
def isOwn : ReqKind → Bool
  | .groupDefine | .groupTune | .engage | .disband | .segmentQueue | .segmentFlush | .segmentCancel | .scheduleRead
  | .excursionFetch | .ringFreeze | .ringUnfreeze => true
  | _ => false

/-- What is left to show that every step keeps the invariant: resets, and the requests and events that make no claim. -/
theorem kept (reset : ∀ s lines alerts, I s → I (State.base s.cal.records lines alerts s.pending s.freeCount))
    (own : ∀ k held body s, isOwn k = true → meets (requestBlocks k) R = true → I s → I (perform k held body s).1)
    (ownEvent : ∀ i s, isOwnEvent i = true → meets (eventBlocks i) R = true → I s → I (effect i s)) :
    Kept R I where
  inner b hb := by
    have core := K.inner b hb
    revert core
    cases b <;> decide
  reads := K.reads
  reset := reset
  request k held body s hk hs := by
    cases k with
    | linkEnable => exact K.reqLinkEnable_keeps body hs
    | linkRestart => exact K.reqLinkRestart_keeps body hs
    | release => exact K.reqRelease_keeps body hs
    | permitGrant => exact K.reqPermitGrant_keeps body hs
    | groupDefine | groupTune | engage | disband | segmentQueue | segmentFlush | segmentCancel | scheduleRead
    | excursionFetch | ringFreeze | ringUnfreeze =>
      exact own _ held body s rfl hk hs
    | _ =>
      rw [meets_inner_eq_false K.inner rfl] at hk
      cases hk
  event i s hi hs := K.effect_keeps i s hi (fun own => ownEvent i s own hi hs) hs
  settles s hs := K.settle_keeps hs

omit K in
/-- The blocks of those events hold nothing of the invariant. -/
theorem noOwnEvent (h : meets [.mark, .road, .scheds, .mon, .windows] R = false) (i : Instr) (s : State)
    (own : isOwnEvent i = true) (hi : meets (eventBlocks i) R = true) (_ : I s) : I (effect i s) := by
  have inside : ∀ b ∈ eventBlocks i, b ∈ [Block.mark, .road, .scheds, .mon, .windows] := by
    cases i with
    | markInEdge | segmentActivation | blendStep | durationEnd => simp [eventBlocks]
    | _ => cases own
  obtain ⟨b, hb, hR⟩ := List.any_eq_true.mp hi
  exact absurd (inside b hb) (meets_eq_false h b (List.contains_iff_mem.mp hR))

end ClaimKept

/-! ## Moves alone -/

/-- An invariant of the groups and the posted demands that every move keeps and a reset restores. -/
structure MoveKept (I : State → Prop) : Prop where
  reads : ∀ s t, t.table = s.table → I s → I t
  moved : ∀ s t g, Moved s g t.table → I s → I t
  reset : ∀ s t, t.table = (Quad.fill Group.reset, Quad.fill 0) → I s → I t

namespace MoveKept

variable {I : State → Prop} (K : MoveKept I)
include K

/-- A move at a group whose outcome is known. -/
theorem of_moved {s t : State} {g : GroupId} {q : Quad Group} {p : Quad Int} (move : Moved s g (q, p))
    (ht : t.groups = q ∧ t.posted = p) (hs : I s) : I t :=
  K.moved s t g ((Prod.ext ht.1 ht.2 : t.table = (q, p)) ▸ move) hs

theorem claims : ClaimKept [.groups, .posted] I where
  inner := by decide
  reads s t same hs := K.reads s t (table_eq ⟨same .groups (by decide), same .posted (by decide)⟩) hs
  held g s hd hs := K.of_moved (.held hd) (claimHeld_groups g s hd) hs
  tripped g s hr hs := K.of_moved (.tripped hr) (tripGroup_groups g s hr) hs
  released g s h hs := K.of_moved (.released h) (releaseGroup_groups g s) hs
  freed g s h hs := K.of_moved (.freed h) (engageFailed_groups g s) hs
  driven g d s hd hx hs := K.moved s _ g (moved_drivingPeriod s g d hd hx) hs
  idled g d s h hx hs := K.moved s _ g (.idled d h hx) hs

theorem reqGroupDefine_keeps (body : List Byte) {s : State} (hs : I s) : I (reqGroupDefine body s).1 := by
  unfold reqGroupDefine
  split
  · exact hs
  · next g d hb =>
    dsimp only
    split
    · exact hs
    · next hst =>
      split
      · exact hs
      · next apart =>
        have undefinedOrFree : (s.groups.get g).state = .undefined ∨ (s.groups.get g).state = .free := by
          rw [not_and_or] at hst
          exact hst.imp not_not.mp not_not.mp
        have move := Moved.defined d undefinedOrFree (groupDefineBody_inRange hb) (Bool.not_eq_true _ ▸ apart)
        refine K.moved s _ g ?_ hs
        rw [postZero_eq]
        simpa [State.table, Group.members, Group.defined] using move

theorem reqGroupTune_keeps (body : List Byte) {s : State} (hs : I s) : I (reqGroupTune body s).1 := by
  unfold reqGroupTune
  split
  · exact hs
  · next g t hb =>
    dsimp only
    split
    · exact hs
    · exact hs
    · next d hd defined => exact K.moved s _ g (Moved.tuned d t defined hd (groupTuneBody_inRange hb)) hs

theorem reqEngage_keeps (body : List Byte) {s : State} (hs : I s) : I (reqEngage body s).1 := by
  unfold reqEngage
  split
  · exact hs
  · next g _ =>
    dsimp only
    split
    case h_1 d st hd | h_2 d st hd =>
      cases hr : engageRefusal d s with
      | some _ => exact hs
      | none => exact K.moved s _ g (Moved.started d (by simp [st]) hd hr) hs
    case h_3 => exact hs

theorem reqDisband_keeps (body : List Byte) {s : State} (hs : I s) : I (reqDisband body s).1 := by
  unfold reqDisband
  split
  · exact hs
  · next g _ =>
    split
    · next h => exact K.of_moved (.disbanded h) (disbandGroup_groups g s) hs
    · exact hs

/-- What every move keeps, every step keeps. -/
theorem kept : Kept [.groups, .posted] I :=
  K.claims.kept (fun s _ _ hs => K.reset s _ rfl hs) (ownEvent := ClaimKept.noOwnEvent rfl) fun k held body s own hk hs => by
    cases k with
    | groupDefine => exact K.reqGroupDefine_keeps body hs
    | groupTune => exact K.reqGroupTune_keeps body hs
    | engage => exact K.reqEngage_keeps body hs
    | disband => exact K.reqDisband_keeps body hs
    | segmentQueue | segmentFlush | segmentCancel | scheduleRead | excursionFetch | ringFreeze | ringUnfreeze => cases hk
    | _ => cases own

end MoveKept

end Sys2Proof.Machine
end

section
/-! SUPPORT. The invariant of the groups: definitions in their ranges, members apart, and the timers, the open slot, the ramp and the SYNC condition by the state (R59, R62, R63, R65, R91, R101). -/

set_option Elab.async false

namespace Sys2Proof.Machine

/-! ## One group -/

/-- What the fields of a group must be in each of its states. -/
structure Group.Fits (x : Group) : Prop where
  defined : x.defn.isSome = true ↔ x.state ≠ .undefined
  inRange : ∀ d ∈ x.defn.toList, d.InRange
  period : x.periodDue.isSome = x.state.running
  engage : x.engageDue.isSome = true ↔ x.state = .engaging
  slot : x.openSlip.isSome = true ↔ x.state = .slipping
  sync : x.sync = true → x.state.running = true
  offsets : x.state.running = true → x.offsets.map List.length = x.defn.map (·.members.length)
  confirm : x.state = .engaging → x.confirm < 8 ∧ x.engagedAt.isSome = true
  ramp : x.state = .locked ∨ x.state = .slipping → some x.rampProgress = x.defn.map (·.ramp * 1000)

/-- Every group fits, and no station belongs to two of them. -/
structure GroupsSound (s : State) : Prop where
  fits : ∀ g, (s.groups.get g).Fits
  apart : ∀ g h, g ≠ h → ∀ n, ¬ ((s.groups.get g).hasMember n = true ∧ (s.groups.get h).hasMember n = true)

theorem groupsSound_iff (s : State) : GroupsSound s ↔ MembersApart s ∧ GroupTimed s := by
  constructor
  · rintro ⟨fits, apart⟩
    exact ⟨⟨fun g _ => (fits g).defined, fun g _ => (fits g).inRange, fun g _ h _ hg n _ => apart g h hg n⟩,
      fun g _ => ⟨(fits g).period, (fits g).engage, (fits g).slot, (fits g).sync, (fits g).offsets, (fits g).confirm,
        (fits g).ramp⟩⟩
  · rintro ⟨⟨defined, inRange, apart⟩, timed⟩
    refine ⟨fun g => ?_, fun g h hg n => apart g (mem_allFour g) h (mem_allFour h) hg n (mem_allFour n)⟩
    obtain ⟨period, engage, slot, sync, offsets, confirm, ramp⟩ := timed g (mem_allFour g)
    exact ⟨defined g (mem_allFour g), inRange g (mem_allFour g), period, engage, slot, sync, offsets, confirm, ramp⟩

theorem defined_of_running {x : Group} (hr : x.state.running = true) : x.state ≠ .undefined := by
  intro e
  simp [e, GroupState.running] at hr

namespace Group.Fits

variable {x : Group} (h : x.Fits)
include h

theorem noSlot (hs : x.state ≠ .slipping) : x.openSlip = none := by
  have slot := h.slot
  cases ho : x.openSlip with
  | none => rfl
  | some o => exact absurd (slot.mp (by simp [ho])) hs

/-- A defined group in which nothing runs and which is neither running nor UNDEFINED. -/
theorem stopped {y : Group} (hd : x.state ≠ .undefined) (defn : y.defn = x.defn)
    (state : y.state = .free ∨ y.state = .tripped) (period : y.periodDue = none) (engage : y.engageDue = none)
    (slot : y.openSlip = none) (sync : y.sync = false) : y.Fits := by
  have running : y.state.running = false := by rcases state with e | e <;> rw [e] <;> rfl
  refine ⟨?_, defn ▸ h.inRange, ?_, ?_, ?_, ?_, ?_, ?_, ?_⟩
  · rw [defn, h.defined]
    rcases state with e | e <;> simp [e, hd]
  all_goals rcases state with e | e <;> simp [period, engage, slot, sync, e, GroupState.running]

theorem held (hd : x.state.driving = true) : x.heldBy.Fits := by
  have running := running_of_driving hd
  refine ⟨?_, h.inRange, ?_, ?_, ?_, ?_, fun _ => h.offsets running, ?_, ?_⟩
  · simpa [Group.heldBy, h.defined] using defined_of_running running
  · exact h.period.trans running
  all_goals simp [Group.heldBy, GroupState.running]

theorem tripped (hr : x.state.running = true) : x.trippedBy.Fits :=
  h.stopped (defined_of_running hr) rfl (.inr rfl) rfl rfl rfl rfl

theorem released (hr : x.state.running = true ∨ x.state = .tripped) : x.releasedBy.Fits := by
  have defined : x.state ≠ .undefined := by
    rcases hr with hr | hr
    · exact defined_of_running hr
    · simp [hr]
  exact h.stopped defined rfl (.inl rfl) rfl rfl rfl rfl

theorem freed (he : x.state = .engaging) : x.freed.Fits :=
  h.stopped (by simp [he]) rfl (.inl rfl) rfl rfl (h.noSlot (by simp [he])) rfl

theorem disbanded (hf : x.state = .free) : x.disbanded.Fits := by
  have slot := h.noSlot (by simp [hf])
  constructor
  all_goals simp [Group.disbanded, slot, GroupState.running]

theorem redefined (hs : x.state = .undefined ∨ x.state = .free) (d : GroupDef) (hd : d.InRange) :
    (x.defined d).Fits := by
  have still : x.state.running = false := by rcases hs with e | e <;> rw [e] <;> rfl
  have period : x.periodDue = none := by simpa [still] using h.period
  have engage : x.engageDue = none := by simpa using mt h.engage.mp (by rcases hs with e | e <;> simp [e])
  have slot := h.noSlot (by rcases hs with e | e <;> simp [e])
  have sync : x.sync = false := by
    cases e : x.sync with
    | false => rfl
    | true => rw [h.sync e] at still; cases still
  constructor
  case inRange => simpa [Group.defined] using hd
  all_goals simp [Group.defined, period, engage, slot, sync, GroupState.running]

theorem tuned (d : GroupDef) (t : Tuning) (hx : x.defn = some d) (ht : t.InRange) :
    ({ x with defn := some { d with tuning := t } } : Group).Fits := by
  obtain ⟨least, most, distinct, shares, period, _, ramp⟩ := h.inRange d (by simp [hx])
  have defined := h.defined
  have offsets := h.offsets
  have ramped := h.ramp
  rw [hx] at defined offsets ramped
  refine ⟨by simpa using defined, ?_, h.period, h.engage, h.slot, h.sync, offsets, h.confirm, ramped⟩
  simp only [Option.toList_some, List.mem_singleton, forall_eq]
  exact ⟨least, most, distinct, shares, period, ht, ramp⟩

end Group.Fits

/-! ## A control period -/

/-- A driving group between stage nine and the end of its period, whose ramp reaches its length at that end where the
state asks for it. -/
structure JudgedFits (x : Group) (d : GroupDef) (y : Group) : Prop where
  driving : y.state.driving = true
  defn : y.defn = x.defn
  offsets : y.offsets = x.offsets
  engage : y.engageDue.isSome = true ↔ y.state = .engaging
  slot : y.openSlip.isSome = true ↔ y.state = .slipping
  confirm : y.state = .engaging → y.confirm < 8 ∧ y.engagedAt.isSome = true
  ramp : y.state = .locked ∨ y.state = .slipping → d.ramp * 1000 ≤ x.rampProgress + d.period

theorem Judged.fits {full : Bool} {x y : Group} (j : Judged full x y) (h : x.Fits) (d : GroupDef)
    (hx : x.defn = some d) (hf : full = true → d.ramp * 1000 ≤ x.rampProgress + d.period) : JudgedFits x d y := by
  have full_length (hs : x.state = .locked ∨ x.state = .slipping) : d.ramp * 1000 ≤ x.rampProgress + d.period := by
    have ramp := h.ramp hs
    rw [hx, Option.map_some, Option.some.injEq] at ramp
    omega
  have engage := h.engage
  have slot := h.slot
  cases j with
  | confirms c hs hc step =>
    obtain ⟨below, engagedAt⟩ := h.confirm hs
    rw [hs] at engage slot
    refine ⟨?_, rfl, rfl, ?_, ?_, fun _ => ⟨by dsimp only; omega, engagedAt⟩, ?_⟩
    all_goals simp [hs, engage, slot, GroupState.driving]
  | locks hs enough =>
    have ramp := hf (enough (h.confirm hs).1)
    rw [hs] at slot
    refine ⟨rfl, rfl, rfl, ?_, ?_, ?_, fun _ => ramp⟩
    all_goals simp [slot]
  | stays hs => 
    refine ⟨by rw [hs]; rfl, rfl, rfl, engage, slot, h.confirm, full_length⟩
  | slips o hs =>
    rw [hs] at engage
    refine ⟨rfl, rfl, rfl, ?_, ?_, ?_, fun _ => full_length (.inl hs)⟩
    all_goals simp [engage]
  | peaks f hs =>
    refine ⟨by rw [hs]; rfl, rfl, rfl, engage, ?_, h.confirm, full_length⟩
    simpa using slot
  | relocks hs =>
    rw [hs] at engage
    refine ⟨rfl, rfl, rfl, ?_, ?_, ?_, fun _ => full_length (.inr hs)⟩
    all_goals simp [engage]

/-- A full ramp has its length at the end of the period. -/
theorem rampFull_length {s : State} {g : GroupId} {d : GroupDef} (h : rampFull s g d = true) :
    d.ramp * 1000 ≤ (s.groups.get g).rampProgress + d.period := by
  have full := of_decide_eq_true h
  unfold rampFraction at full
  split at full
  · next zero => simp [zero]
  · next ramps =>
    dsimp only at full
    omega

theorem drivenGroup_fits {s : State} {g : GroupId} {d : GroupDef} {y : Group} (h : (s.groups.get g).Fits)
    (hx : (s.groups.get g).defn = some d) (hr : (s.groups.get g).state.running = true)
    (j : JudgedFits (s.groups.get g) d y) : (drivenGroup s g d y).Fits := by
  obtain ⟨driving, defn, offsets, engage, slot, confirm, ramp⟩ := j
  have running := running_of_driving driving
  refine ⟨?_, ?_, ?_, engage, slot, fun _ => running, fun _ => ?_, confirm, fun hs => ?_⟩
  · simp [drivenGroup, defn, hx, defined_of_running running]
  · simpa [drivenGroup, defn] using h.inRange
  · simp [drivenGroup, running]
  · simp [drivenGroup, offsets, defn, h.offsets hr]
  · have reached := ramp hs
    simp [drivenGroup, defn, hx, reached]

/-- A period in HELD. -/
theorem idled_fits {x : Group} (h : x.Fits) (hs : x.state = .held) (v : Bool) (c : BitVec 32) (due : CellTime) :
    ({ x with sync := v, rampProgress := 0, periodSeq := c, periodDue := some due } : Group).Fits := by
  have running : x.state.running = true := by rw [hs]; rfl
  refine ⟨h.defined, h.inRange, ?_, h.engage, h.slot, fun _ => running, h.offsets, h.confirm, ?_⟩
  · simp [running]
  · simp [hs]

/-! ## The start of a group (R71) -/

/-- The group an accepted ENGAGE leaves. -/
def engagedGroup (s : State) (g : GroupId) (d : GroupDef) : Group :=
  { s.groups.get g with
    state := .engaging, offsets := some (d.members.map fun m => (s.units.get m.station).travel),
    history := List.replicate 8 (hold32 (referenceSpeed d.kind (d.members.map fun m => (s.units.get m.station).speed))),
    rampProgress := 0, confirm := 0, periodDue := some (s.clock + d.period),
    engageDue := some (s.clock + d.engageTimeout * 1000), engagedAt := some s.clock }

theorem startGroup_table (g : GroupId) (d : GroupDef) (s : State) :
    (startGroup g d s).table = (s.groups.set g (engagedGroup s g d), s.posted) := by
  unfold startGroup
  dsimp only
  split <;> rfl

theorem engagedGroup_fits {s : State} {g : GroupId} {d : GroupDef} (h : (s.groups.get g).Fits)
    (hx : (s.groups.get g).defn = some d) (hs : (s.groups.get g).state = .free ∨ (s.groups.get g).state = .held) :
    (engagedGroup s g d).Fits := by
  have slot := h.noSlot (by rcases hs with e | e <;> simp [e])
  constructor
  case inRange => exact h.inRange
  all_goals simp [engagedGroup, hx, slot, GroupState.running]

/-! ## The table of groups -/

/-- A group takes a fitting record with no new member. -/
theorem GroupsSound.set {s t : State} (h : GroupsSound s) (g : GroupId) (y : Group) (ht : t.groups = s.groups.set g y)
    (fits : y.Fits) (members : ∀ k n, k ≠ g → y.hasMember n = true → (s.groups.get k).hasMember n = false) :
    GroupsSound t := by
  have apart (k : GroupId) (hk : k ≠ g) (n : Station) :
      ¬ (y.hasMember n = true ∧ (s.groups.get k).hasMember n = true) := by
    rintro ⟨here, there⟩
    rw [members k n hk here] at there
    cases there
  constructor
  · intro k
    rw [ht, Quad.get_set]
    split
    · exact fits
    · exact h.fits k
  · intro k l hkl n
    rw [ht, Quad.get_set, Quad.get_set]
    split
    · next hk =>
      rw [if_neg (fun hl => hkl (hk.trans hl.symm))]
      exact apart l (fun hl => hkl (hk.trans hl.symm)) n
    · next hk =>
      split
      · exact fun both => apart k hk n both.symm
      · exact h.apart k l hkl n

/-- A group whose members are those it had. -/
theorem GroupsSound.set_same {s t : State} (h : GroupsSound s) (g : GroupId) (y : Group)
    (ht : t.groups = s.groups.set g y) (fits : y.Fits) (members : y.members = (s.groups.get g).members) :
    GroupsSound t := by
  refine h.set g y ht fits fun k n hk here => ?_
  have there := h.apart g k (Ne.symm hk) n
  rw [Group.hasMember, members] at here
  simpa [Group.hasMember, here] using there

/-- The members of a definition that GROUP DEFINE accepts are in no other group (R66). -/
theorem apart_of_takenElsewhere {s : State} {g : GroupId} {ms : List Member} (h : GroupsSound s)
    (free : s.takenElsewhere g ms = false) (k : GroupId) (hk : k ≠ g) (n : Station)
    (hn : ms.any (fun m => m.station == n) = true) : (s.groups.get k).hasMember n = false := by
  obtain ⟨m, hm, station⟩ := List.any_eq_true.mp hn
  rw [← beq_iff_eq.mp station]
  cases he : (s.groups.get k).hasMember m.station with
  | false => rfl
  | true =>
    have defined : (s.groups.get k).state ≠ .undefined := by
      refine (h.fits k).defined.mp ?_
      cases hd : (s.groups.get k).defn with
      | none => rw [hasMember_of_defn_none hd] at he; cases he
      | some d => rfl
    have taken : s.takenElsewhere g ms = true :=
      List.any_eq_true.mpr ⟨m, hm, List.any_eq_true.mpr ⟨k, mem_allFour k, by simp [hk, defined, he]⟩⟩
    rw [free] at taken
    cases taken

theorem groupsSound_moved {s t : State} {g : GroupId} (m : Moved s g t.table) (h : GroupsSound s) : GroupsSound t := by
  have fits := h.fits g
  have same {y : Group} {p : Quad Int} (ht : t.table = (s.groups.set g y, p)) (hy : y.Fits)
      (members : y.members = (s.groups.get g).members) : GroupsSound t :=
    h.set_same g y (congrArg Prod.fst ht) hy members
  generalize hu : t.table = u at m
  cases m with
  | held hd => exact same hu (fits.held hd) rfl
  | tripped hr => exact same hu (fits.tripped hr) rfl
  | released hr => exact same hu (fits.released hr) rfl
  | freed he => exact same hu (fits.freed he) rfl
  | disbanded hf => exact h.set g _ (congrArg Prod.fst hu) (fits.disbanded hf) fun k n _ here => nomatch here
  | defined d hs hd free =>
    exact h.set g _ (congrArg Prod.fst hu) (fits.redefined hs d hd) fun k n hk here =>
      apart_of_takenElsewhere h free k hk n here
  | tuned d x hs hx ht => exact same hu (fits.tuned d x hx ht) (by simp [Group.members, hx])
  | started d hs hx _ => exact same (hu.trans (startGroup_table g d s)) (engagedGroup_fits fits hx hs) rfl
  | driven d y hd hx j =>
    have judged := j.fits fits d hx rampFull_length
    exact same hu (drivenGroup_fits fits hx (running_of_driving hd) judged)
      (by simp [Group.members, drivenGroup, judged.defn])
  | idled d hs hx =>
    rw [heldPeriod_eq s g d hs] at hu
    exact same hu (idled_fits fits hs _ _ _) rfl

theorem moveKept_groupsSound : MoveKept GroupsSound where
  reads s t table h := by
    have groups : t.groups = s.groups := congrArg Prod.fst table
    exact ⟨fun g => groups ▸ h.fits g, fun g k hgk => groups ▸ h.apart g k hgk⟩
  moved s t g m h := groupsSound_moved m h
  reset s t table _ := by
    have groups : t.groups = Quad.fill Group.reset := congrArg Prod.fst table
    constructor
    · intro g
      rw [groups, Quad.get_fill]
      constructor <;> simp [Group.reset, GroupState.running]
    · intro g k _ n both
      rw [groups, Quad.get_fill] at both
      cases both.1

/-- Settles O7: each move of the groups leaves them sound. -/
theorem stepKeepsGroups : Obligations.StepKeepsGroups := by
  intro s t members timed h
  exact (groupsSound_iff t).mp
    (moveKept_groupsSound.kept.step_keeps s t ((groupsSound_iff s).mpr ⟨members, timed⟩) h)

end Sys2Proof.Machine
end

section
/-! SUPPORT. The pending segments: the place of a segment in the resolved queue, its activations, and the invariant of both collections (R110, R113, R116); capacities of the log, the rings, the history and the input queue (R61, R167, R175, R182). -/

set_option Elab.async false

namespace Sys2Proof.Machine

/-! ## The resolved queue (R110) -/

/-- The order of R110. -/
def StartsBefore (x y : Resolved) : Prop := x.due < y.due ∨ (x.due = y.due ∧ x.seg.arrival < y.seg.arrival)

theorem before_iff (x y : Resolved) : x.before y = true ↔ StartsBefore x y := by
  simp [Resolved.before, StartsBefore]

theorem StartsBefore.trans {x y z : Resolved} (hxy : StartsBefore x y) (hyz : StartsBefore y z) : StartsBefore x z := by
  have lex (a b c i j k : Nat) (hab : a < b ∨ a = b ∧ i < j) (hbc : b < c ∨ b = c ∧ j < k) : a < c ∨ a = c ∧ i < k := by
    omega
  exact lex _ _ _ _ _ _ hxy hyz

/-- Of two segments of different arrival numbers one starts before the other. -/
theorem StartsBefore.of_not {x y : Resolved} (h : ¬ StartsBefore x y) (apart : x.seg.arrival ≠ y.seg.arrival) :
    StartsBefore y x := by
  have lex (a b i j : Nat) (hab : ¬ (a < b ∨ a = b ∧ i < j)) (hij : i ≠ j) : b < a ∨ b = a ∧ j < i := by omega
  exact lex _ _ _ _ h apart

theorem insertResolved_perm (x : Resolved) (q : List Resolved) : (insertResolved x q).Perm (x :: q) := by
  induction q with
  | nil => exact .refl _
  | cons y q ih =>
    unfold insertResolved
    split
    · exact .refl _
    · exact (ih.cons y).trans (.swap x y q)

theorem mem_insertResolved {x y : Resolved} {q : List Resolved} : y ∈ insertResolved x q ↔ y = x ∨ y ∈ q := by
  rw [(insertResolved_perm x q).mem_iff, List.mem_cons]

theorem insertResolved_length (x : Resolved) (q : List Resolved) : (insertResolved x q).length = q.length + 1 :=
  (insertResolved_perm x q).length_eq

theorem insertResolved_sorted {x : Resolved} {q : List Resolved} (sorted : q.Pairwise StartsBefore)
    (fresh : ∀ y ∈ q, x.seg.arrival ≠ y.seg.arrival) : (insertResolved x q).Pairwise StartsBefore := by
  induction q with
  | nil => exact List.pairwise_singleton _ _
  | cons y q ih =>
    obtain ⟨first, rest⟩ := List.pairwise_cons.mp sorted
    unfold insertResolved
    split
    · next before =>
      have hxy := (before_iff x y).mp before
      refine List.pairwise_cons.mpr ⟨fun z hz => ?_, sorted⟩
      rcases List.mem_cons.mp hz with rfl | hz
      · exact hxy
      · exact hxy.trans (first z hz)
    · next after =>
      have hyx := StartsBefore.of_not (mt (before_iff x y).mpr after) (fresh y List.mem_cons_self)
      refine List.pairwise_cons.mpr ⟨fun z hz => ?_, ih rest fun z hz => fresh z (List.mem_cons_of_mem y hz)⟩
      rcases mem_insertResolved.mp hz with rfl | hz
      · exact hyx
      · exact first z hz

/-! ## Both collections -/

/-- The order of both collections, and the freshness of the next arrival number (R110). -/
structure RoadQueue.Ordered (r : RoadQueue) : Prop where
  sorted : r.resolved.Pairwise StartsBefore
  inArrival : r.unresolved.Pairwise fun x y => x.arrival < y.arrival
  resolved : ∀ x ∈ r.resolved, x.seg.arrival < r.nextArrival ∧ ∀ y ∈ r.unresolved, x.seg.arrival ≠ y.arrival
  unresolved : ∀ y ∈ r.unresolved, y.arrival < r.nextArrival ∧ y.basis = .mark

theorem RoadQueue.ordered_iff (s : State) : s.road.Ordered ↔ QueueOrdered s :=
  ⟨fun ⟨sorted, inArrival, resolved, unresolved⟩ => ⟨sorted, inArrival, resolved, unresolved⟩,
    fun ⟨sorted, inArrival, resolved, unresolved⟩ => ⟨sorted, inArrival, resolved, unresolved⟩⟩

namespace RoadQueue.Ordered

variable {r : RoadQueue} (h : r.Ordered)
include h

/-- Segments leave and none comes. -/
theorem sublist {q : List Resolved} {u : List Segment} (hq : q.Sublist r.resolved) (hu : u.Sublist r.unresolved) :
    ({ r with resolved := q, unresolved := u } : RoadQueue).Ordered where
  sorted := h.sorted.sublist hq
  inArrival := h.inArrival.sublist hu
  resolved x hx := ⟨(h.resolved x (hq.subset hx)).1, fun y hy => (h.resolved x (hq.subset hx)).2 y (hu.subset hy)⟩
  unresolved y hy := h.unresolved y (hu.subset hy)

/-- A segment with the next arrival number is resolved (R112). -/
theorem place_resolved (x : Segment) (hx : x.arrival = r.nextArrival) (due : CellTime) :
    ({ r with resolved := insertResolved { seg := x, due := due } r.resolved,
              nextArrival := r.nextArrival + 1 } : RoadQueue).Ordered where
  sorted := insertResolved_sorted h.sorted fun y hy => by
    have older := (h.resolved y hy).1
    dsimp only
    omega
  inArrival := h.inArrival
  resolved y hy := by
    rcases mem_insertResolved.mp hy with rfl | hy
    · refine ⟨by dsimp only; omega, fun z hz => ?_⟩
      have older := (h.unresolved z hz).1
      dsimp only
      omega
    · exact ⟨Nat.lt_succ_of_lt (h.resolved y hy).1, (h.resolved y hy).2⟩
  unresolved y hy := ⟨Nat.lt_succ_of_lt (h.unresolved y hy).1, (h.unresolved y hy).2⟩

/-- A MARK segment with the next arrival number waits for the mark (R112). -/
theorem place_unresolved (x : Segment) (hx : x.arrival = r.nextArrival) (hb : x.basis = .mark) :
    ({ r with unresolved := r.unresolved ++ [x], nextArrival := r.nextArrival + 1 } : RoadQueue).Ordered where
  sorted := h.sorted
  inArrival := List.pairwise_append.mpr ⟨h.inArrival, List.pairwise_singleton _ _, fun y hy z hz => by
    rw [List.mem_singleton.mp hz, hx]
    exact (h.unresolved y hy).1⟩
  resolved y hy := by
    have older := (h.resolved y hy).1
    refine ⟨Nat.lt_succ_of_lt older, fun z hz => ?_⟩
    rcases List.mem_append.mp hz with hz | hz
    · exact (h.resolved y hy).2 z hz
    · rw [List.mem_singleton.mp hz]
      omega
  unresolved y hy := by
    rcases List.mem_append.mp hy with hy | hy
    · exact ⟨Nat.lt_succ_of_lt (h.unresolved y hy).1, (h.unresolved y hy).2⟩
    · rw [List.mem_singleton.mp hy]
      exact ⟨by dsimp only; omega, hb⟩

end RoadQueue.Ordered

/-- The oldest segment of the unresolved list takes its place in the resolved queue (R113). -/
theorem RoadQueue.Ordered.resolve_first {q : List Resolved} {x : Segment} {u : List Segment} {n : Nat}
    (h : ({ resolved := q, unresolved := x :: u, nextArrival := n } : RoadQueue).Ordered) (due : CellTime) :
    ({ resolved := insertResolved { seg := x, due := due } q, unresolved := u,
       nextArrival := n } : RoadQueue).Ordered := by
  obtain ⟨sorted, inArrival, resolved, unresolved⟩ := h
  obtain ⟨first, rest⟩ := List.pairwise_cons.mp inArrival
  have fresh (y : Resolved) (hy : y ∈ q) : y.seg.arrival ≠ x.arrival := (resolved y hy).2 x List.mem_cons_self
  refine ⟨insertResolved_sorted sorted fun y hy => (fresh y hy).symm, rest, fun y hy => ?_,
    fun y hy => unresolved y (List.mem_cons_of_mem x hy)⟩
  rcases mem_insertResolved.mp hy with rfl | hy
  · exact ⟨(unresolved x List.mem_cons_self).1, fun z hz => Nat.ne_of_lt (first z hz)⟩
  · exact ⟨(resolved y hy).1, fun z hz => (resolved y hy).2 z (List.mem_cons_of_mem x hz)⟩

theorem RoadQueue.Ordered.resolveAll {r : RoadQueue} (h : r.Ordered) (mark : CellTime) : (resolveAll mark r).Ordered := by
  obtain ⟨q, u, n⟩ := r
  unfold Machine.resolveAll
  dsimp only
  induction u generalizing q with
  | nil => exact h
  | cons x u ih => exact ih _ (h.resolve_first (mark + x.start))

/-- The unresolved segments join the resolved queue, each at its offset from the mark (R113). -/
theorem resolveAll_perm (mark : CellTime) (r : RoadQueue) : (resolveAll mark r).resolved.Perm
    (r.resolved ++ r.unresolved.map fun y => { seg := y, due := mark + y.start }) := by
  obtain ⟨q, u, n⟩ := r
  unfold Machine.resolveAll
  dsimp only
  induction u generalizing q with
  | nil => simp
  | cons x u ih =>
    refine (ih (insertResolved { seg := x, due := mark + x.start } q)).trans ?_
    exact ((insertResolved_perm _ q).append_right _).trans List.perm_middle.symm

/-- The order, with the capacity of both collections together (R110). -/
structure RoadQueue.Sound (r : RoadQueue) : Prop where
  room : r.total ≤ 24
  ordered : r.Ordered

namespace RoadQueue.Sound

variable {r : RoadQueue} (h : r.Sound)
include h

theorem sublist {q : List Resolved} {u : List Segment} (hq : q.Sublist r.resolved) (hu : u.Sublist r.unresolved) :
    ({ r with resolved := q, unresolved := u } : RoadQueue).Sound where
  room := (Nat.add_le_add hq.length_le hu.length_le).trans h.room
  ordered := h.ordered.sublist hq hu

theorem place_resolved (room : r.total < 24) (x : Segment) (hx : x.arrival = r.nextArrival) (due : CellTime) :
    ({ r with resolved := insertResolved { seg := x, due := due } r.resolved,
              nextArrival := r.nextArrival + 1 } : RoadQueue).Sound where
  room := by
    simp only [RoadQueue.total, insertResolved_length] at room ⊢
    omega
  ordered := h.ordered.place_resolved x hx due

theorem place_unresolved (room : r.total < 24) (x : Segment) (hx : x.arrival = r.nextArrival) (hb : x.basis = .mark) :
    ({ r with unresolved := r.unresolved ++ [x], nextArrival := r.nextArrival + 1 } : RoadQueue).Sound where
  room := by
    simp only [RoadQueue.total, List.length_append, List.length_singleton] at room ⊢
    omega
  ordered := h.ordered.place_unresolved x hx hb

theorem resolveAll (mark : CellTime) : (resolveAll mark r).Sound where
  room := by
    have all := (resolveAll_perm mark r).length_eq
    rw [List.length_append, List.length_map] at all
    exact all.le.trans h.room
  ordered := h.ordered.resolveAll mark

end RoadQueue.Sound

/-! ## Activation (R116 to R119) -/

theorem activate_eq_taken (x : Schedule) (y : Segment) (now : CellTime) (late : Bool) :
    x.activate y now late = x.taken y now late := by
  obtain ⟨state, _, _, _, applied, _, _⟩ := x
  cases state <;> cases applied <;> by_cases ramp : y.ramp = 0
  all_goals simp [Schedule.activate, Schedule.taken, satInc_eq_oneMore, ramp]

theorem activateDue_eq (now : CellTime) (q : List Resolved) (z : Quad Schedule) :
    activateDue now q z = (stillPending now q, activatedBy now q z) := by
  induction q generalizing z with
  | nil => rfl
  | cons x q ih =>
    unfold activateDue
    by_cases reached : x.due ≤ now
    · simp only [reached, if_true, ih, stillPending, activatedBy, List.dropWhile_cons, List.takeWhile_cons, decide_true,
        List.foldl_cons, activate_eq_taken]
    · simp [reached, stillPending, activatedBy]

/-- R116. -/
theorem runActivations_eq (s : State) :
    runActivations s = { s with
      road := { s.road with resolved := stillPending s.clock s.road.resolved },
      scheds := activatedBy s.clock s.road.resolved s.scheds } := by
  unfold runActivations
  rw [activateDue_eq]

theorem stillPending_sublist (now : CellTime) (q : List Resolved) : (stillPending now q).Sublist q :=
  List.dropWhile_sublist _

/-! ## The road queue in a step -/

theorem runActivations_road {s : State} (h : s.road.Sound) : (runActivations s).road.Sound := by
  rw [runActivations_eq]
  exact h.sublist (stillPending_sublist _ _) (List.Sublist.refl _)

theorem placeSegment_road {s : State} (h : s.road.Sound) (room : s.road.total < 24) (x : Segment)
    (hx : x.arrival = s.road.nextArrival) : (placeSegment x s).1.road.Sound := by
  have resolvedAt (due : CellTime) := h.place_resolved room x hx due
  have placed (due : CellTime) (r : RoadQueue) (hr : r.Sound) :
      (if due ≤ s.clock then (runActivations (s.withRoad r), 2) else (s.withRoad r, 0)).1.road.Sound := by
    split
    · exact runActivations_road (s := s.withRoad r) hr
    · exact hr
  unfold placeSegment
  dsimp only
  split
  · exact placed _ _ (resolvedAt _)
  · next marked =>
    split
    · exact placed _ _ (resolvedAt _)
    · exact h.place_unresolved room x hx marked

theorem removePending_road {s : State} (h : s.road.Sound) (keep : Segment → Bool) :
    (removePending keep s).1.road.Sound :=
  h.sublist List.filter_sublist List.filter_sublist

theorem markEdge_road {s : State} (h : s.road.Sound) : (markEdge s).road.Sound := by
  have resolved : (resolveAll s.clock s.road).Sound := h.resolveAll s.clock
  unfold markEdge
  dsimp only
  split
  · split
    · exact runActivations_road (s := (s.withMark _).withRoad _) resolved
    · exact resolved
  · exact h

theorem kept_road : Kept [.road] (fun s => s.road.Sound) where
  inner := by decide
  reads s t same h := by
    have road : t.road = s.road := same .road (by decide)
    rwa [road]
  reset s lines alerts _ := by
    exact ⟨Nat.zero_le 24, by constructor <;> simp [State.base, RoadQueue.reset]⟩
  request k held body s hk h := by
    cases k with
    | disband =>
      simp only [perform, reqDisband]
      split
      · exact h
      · split
        · next g _ _ =>
          have removed : (removePending (fun x => x.group != g)
              (postZero g s)).1.road.Sound := removePending_road (s := postZero g s) h _
          have window (u : State) := sameBut_disbandWindow u g
          rw [disbandGroup, window _ .road (by decide)]
          exact removed
        · exact h
    | segmentQueue =>
      simp only [perform, reqSegmentQueue]
      split
      · exact h
      · split
        · exact h
        · split
          · exact h
          · next room => exact placeSegment_road h (Nat.not_le.mp room) _ rfl
    | segmentFlush =>
      simp only [perform, reqSegmentFlush]
      split
      · exact h
      · next g _ => exact removePending_road h (fun x => x.group != g)
    | segmentCancel =>
      simp only [perform, reqSegmentCancel]
      split
      · exact h
      · next v _ => exact removePending_road h (fun x => x.tag != v)
    | _ => cases hk
  event i s hi h := by
    cases i with
    | markInEdge => exact markEdge_road h
    | segmentActivation => exact runActivations_road h
    | _ => cases hi
  settles s h := by
    have road : (settle s).road = s.road := sameBut_settle s .road (by decide)
    rwa [road]

/-! ## The excursion log (R167) -/

/-- The log holds at most 32 records. -/
def LogBounded (s : State) : Prop := s.exc.log.length ≤ 32

theorem LogBounded.congr {s t : State} (h : LogBounded s) (ht : t.exc.log = s.exc.log) : LogBounded t := by
  rwa [LogBounded, ht]

theorem LogBounded.logRecord {s : State} (h : LogBounded s) (r : ExcRecord) : LogBounded (logRecord r s) := by
  have capacity : Config.logCapacity = 32 := rfl
  unfold Machine.logRecord
  split
  · next room =>
    rw [LogBounded, State.withExc_exc, List.length_append, List.length_singleton]
    omega
  · exact h

theorem LogBounded.closeExcursion {s : State} (h : LogBounded s) (g : GroupId) (oc : ExcOutcome) :
    LogBounded (closeExcursion g oc s).1 := by
  cases ho : (s.groups.get g).openSlip with
  | none => rwa [closeExcursion_empty g oc s ho]
  | some o =>
    rw [closeExcursion_open g oc s o ho]
    exact h.logRecord _

theorem LogBounded.windowCause {s : State} (h : LogBounded s) (g : GroupId) (r : Option ExcRecord)
    (own : Option CauseKind) : LogBounded (windowCause g r own s) :=
  h.congr (congrArg ExcursionStore.log (sameBut_windowCause s g r own (bs := [.windows]) (by decide) .exc (by decide)))

theorem LogBounded.stageNine {s : State} (h : LogBounded s) (g : GroupId) (t : Tuning) (full : Bool) (b : PeriodBase) :
    LogBounded (stageNine g t full b s) := by
  have group {u : State} (hu : LogBounded u) (x : Group) : LogBounded (u.withGroup g x) := hu
  unfold Machine.stageNine
  dsimp only
  split
  · unfold judgeEngaging
    exact ite_keeps (group (group h _) _) (group (group h _) _)
  · unfold judgeLocked
    split <;> exact h
  · unfold judgeSlipping
    dsimp only
    split
    · exact LogBounded.windowCause (group (LogBounded.closeExcursion (group (group h _) _) g _) _) g _ _
    · exact group (group h _) _
  all_goals exact group h _

theorem LogBounded.tripRecord {s : State} (h : LogBounded s) (g : GroupId) : LogBounded (tripRecord g s).1 := by
  have written (st : CellTime) : LogBounded (writeClosed g .trip st .tripped s).1 :=
    LogBounded.logRecord (s := s.withExc { s.exc with counter := s.exc.counter + 1#16 }) h _
  unfold Machine.tripRecord
  split
  · exact h.closeExcursion g _
  · split
    case h_1 | h_2 => exact written _
    all_goals exact h

theorem claimKept_log : ClaimKept [.exc] LogBounded where
  inner := by decide
  reads s t same h := h.congr (congrArg ExcursionStore.log (same .exc (by decide)))
  held g s hd h := by
    unfold claimHeld
    rw [if_pos hd]
    exact (h.closeExcursion g .held).windowCause (s := (postZero g _).withGroup g _) g _ _
  tripped g s hr h := by
    unfold tripGroup
    rw [if_pos hr]
    exact (h.tripRecord g).windowCause (s := ((postZero g _).withGroup g _).withRing g _) g _ _
  released g s _ h :=
    (h.closeExcursion g .released).windowCause (s := (enterFree g _).withGroup g _) g _ _
  freed g s _ h := by
    rw [engageFailed_eq]
    have written (r : ExcRecord) : LogBounded (logRecord r s.countedExcursion) :=
      LogBounded.logRecord (s := s.countedExcursion) h r
    refine LogBounded.windowCause ?_ g _ _
    exact written _
  driven g d s _ _ h := by
    rw [drivingPeriod_eq]
    exact h.stageNine (s := demanded s g d s) g d.tuning (rampFull s g d) (formedBase s g d)
  idled g d s _ _ h :=
    h.stageNine (s := postZero g s) g d.tuning false (formedBase s g d)

theorem kept_log : Kept [.exc] LogBounded :=
  claimKept_log.kept (fun _ _ _ _ => Nat.zero_le _) (ownEvent := ClaimKept.noOwnEvent rfl) fun k held body s own hk h => by
    cases k with
    | excursionFetch =>
      simp only [perform, reqExcursionFetch]
      split
      · exact h
      · next n _ => exact (List.drop_sublist n s.exc.log).length_le.trans h
    | groupDefine | groupTune | engage | disband | segmentQueue | segmentFlush | segmentCancel | scheduleRead | ringFreeze
    | ringUnfreeze => cases hk
    | _ => cases own

/-! ## Rings (R175) -/

/-- Every ring has its 32 slots and a next slot among them. -/
def RingsSound (s : State) : Prop := ∀ g, (s.rings.get g).slots.length = 32 ∧ (s.rings.get g).next < 32

theorem RingsSound.set {s t : State} (h : RingsSound s) (g : GroupId) (r : Ring) (ht : t.rings = s.rings.set g r)
    (hr : r.slots.length = 32 ∧ r.next < 32) : RingsSound t := by
  intro k
  rw [ht, Quad.get_set]
  split
  · exact hr
  · exact h k

theorem RingsSound.congr {s t : State} (h : RingsSound s) (ht : t.rings = s.rings) : RingsSound t := by
  rwa [RingsSound, ht]

theorem reset_slots : Ring.reset.slots.length = 32 ∧ Ring.reset.next < 32 := by decide

theorem taken_slots {r : Ring} (h : r.slots.length = 32 ∧ r.next < 32) (e : RingEntry) :
    (r.taken e).slots.length = 32 ∧ (r.taken e).next < 32 := by
  unfold Ring.taken
  split
  · exact h
  · exact ⟨by simpa using h.1, Nat.mod_lt _ (by decide)⟩

theorem rings_of_sameBut {bs : List Block} {s t : State} (h : SameBut bs s t) (hb : Block.rings ∉ bs) :
    t.rings = s.rings := h .rings hb

theorem endPeriod_rings (g : GroupId) (d : GroupDef) (e : RingEntry) {s : State} (h : RingsSound s) :
    RingsSound (endPeriod g d e s) :=
  h.set g _ rfl (by
    rw [write_eq_taken]
    exact taken_slots (h g) _)

theorem stageNine_rings (g : GroupId) (t : Tuning) (full : Bool) (b : PeriodBase) (s : State) :
    (stageNine g t full b s).rings = s.rings := rings_of_sameBut (sameBut_stageNine s g t full b) (by decide)

theorem claimKept_rings : ClaimKept [.rings] RingsSound where
  inner := by decide
  reads s t same h := h.congr (same .rings (by decide))
  held g s _ h := h.congr (rings_of_sameBut (sameBut_claimHeld s g) (by decide))
  tripped g s hr h := by
    have record : (tripRecord g s).1.rings = s.rings := by
      obtain ⟨x, e, a, eq⟩ := tripRecord_frame g s
      rw [eq]
      rfl
    unfold tripGroup
    rw [if_pos hr]
    refine h.set g { s.rings.get g with frozen := true } ?_ (h g)
    rw [rings_of_sameBut (sameBut_windowCause _ g _ _ (bs := [.windows]) (by decide)) (by decide)]
    show (tripRecord g s).1.rings.set g { (tripRecord g s).1.rings.get g with frozen := true } = _
    rw [record]
  released g s _ h := h.congr (rings_of_sameBut (sameBut_releaseGroup s g) (by decide))
  freed g s _ h := h.congr (rings_of_sameBut (sameBut_engageFailed s g) (by decide))
  driven g d s _ _ h := by
    rw [drivingPeriod_eq]
    exact endPeriod_rings g d _ (h.congr (stageNine_rings g _ _ _ (demanded s g d s)))
  idled g d s _ _ h :=
    endPeriod_rings g d _ (h.congr (stageNine_rings g _ _ _ (postZero g s)))

theorem kept_rings : Kept [.rings] RingsSound :=
  claimKept_rings.kept (fun _ _ _ _ g => by
      rw [State.base, Quad.get_fill]
      exact reset_slots) (ownEvent := ClaimKept.noOwnEvent rfl) fun k held body s own hk h => by
    cases k with
    | groupDefine =>
      simp only [perform, reqGroupDefine]
      split
      · exact h
      · split
        · exact h
        · split
          · exact h
          · next g d _ _ _ => exact h.set g Ring.reset rfl reset_slots
    | engage =>
      have started (g : GroupId) (d : GroupDef) : RingsSound (startGroup g d s) := by
        refine h.set g { s.rings.get g with frozen := false } ?_ (h g)
        unfold startGroup
        dsimp only
        split <;> rfl
      simp only [perform, reqEngage]
      split
      · exact h
      · split
        case h_1 | h_2 =>
          split
          · exact h
          · exact started _ _
        case h_3 => exact h
    | ringFreeze | ringUnfreeze =>
      simp only [perform, reqRingFreeze, reqRingUnfreeze]
      split
      · exact h
      · next g _ => exact h.set g _ rfl (h g)
    | groupTune | disband | segmentQueue | segmentFlush | segmentCancel | scheduleRead | excursionFetch => cases hk
    | _ => cases own

/-! ## The speed history (R61, R94) -/

/-- Every group keeps eight reference speeds. -/
def HistoriesFull (s : State) : Prop := ∀ g, (s.groups.get g).history.length = 8

theorem HistoriesFull.set {s t : State} (h : HistoriesFull s) (g : GroupId) (y : Group) {p : Quad Int}
    (ht : t.table = (s.groups.set g y, p)) (hy : y.history.length = 8) : HistoriesFull t := by
  have groups : t.groups = s.groups.set g y := congrArg Prod.fst ht
  intro k
  rw [groups, Quad.get_set]
  split
  · exact hy
  · exact h k

theorem moveKept_history : MoveKept HistoriesFull where
  reads s t table h g := by
    have groups : t.groups = s.groups := congrArg Prod.fst table
    rw [groups]
    exact h g
  moved s t g m h := by
    have eight := h g
    generalize hu : t.table = u at m
    cases m with
    | held | tripped | released | freed | disbanded | tuned => exact h.set g _ hu eight
    | defined => exact h.set g _ hu rfl
    | started d => exact h.set g _ (hu.trans (startGroup_table g d s)) (by simp [engagedGroup])
    | driven d y => exact h.set g _ hu (by simp [drivenGroup, shiftHistory, eight])
    | idled d hs =>
      rw [heldPeriod_eq s g d hs] at hu
      exact h.set g _ hu eight
  reset s t table _ g := by
    have groups : t.groups = Quad.fill Group.reset := congrArg Prod.fst table
    rw [groups, Quad.get_fill]
    rfl

end Sys2Proof.Machine
end

section
/-! SUPPORT. What a step does at the message port (R179 to R183, R190 to R192), and the invariants of the input queue, the receiver, the permit timer and the preparation. -/

set_option Elab.async false

namespace Sys2Proof.Machine

/-! ## What an event does at the port -/

/-- The receiver's timer is stopped in HUNTING (R179, R180). -/
def Port.Listens (p : Port) : Prop := p.rx = .hunting → p.gapDue = none

/-- The receiver alone may have changed at the port, and the permit mask may have emptied. -/
structure Heard (s t : State) : Prop where
  queue : t.port.queue = s.port.queue
  tx : t.port.tx = s.port.tx
  prepared : t.port.prepared = s.port.prepared
  listens : s.port.Listens → t.port.Listens
  mask : t.permit.mask = s.permit.mask ∨ t.permit.mask = 0#4

theorem Heard.of_port {s t : State} (port : t.port = s.port)
    (mask : t.permit.mask = s.permit.mask ∨ t.permit.mask = 0#4) : Heard s t :=
  ⟨congrArg Port.queue port, congrArg Port.tx port, congrArg Port.prepared port, fun h => port ▸ h, mask⟩

theorem Heard.refl (s : State) : Heard s s := .of_port rfl (.inl rfl)

/-- The receiver takes a new state, its timer stopped in HUNTING. -/
theorem Heard.withPort (s : State) {p : Port} (queue : p.queue = s.port.queue) (tx : p.tx = s.port.tx)
    (prepared : p.prepared = s.port.prepared) (listens : p.Listens) : Heard s (s.withPort p) :=
  ⟨queue, tx, prepared, fun _ => listens, .inl rfl⟩

/-- What an event does at the port. -/
inductive PortEffect (s : State) : State → Prop where
  | reset (lines : LineLevels) (alerts : Alerts) :
      PortEffect s (State.base s.cal.records lines alerts s.pending s.freeCount)
  | framed (f : Frame) (u : State) : Heard s u → PortEffect s (acceptFrame f u)
  | replied (x : Sending) : s.port.tx = some x → x.thenReset = false →
      PortEffect s (takeNext (s.withPort { s.port with tx := none }))
  | heard (t : State) : Heard s t → PortEffect s t

theorem heard_hunt (s : State) : Heard s (s.withPort s.port.hunt) := .withPort s rfl rfl rfl fun _ => rfl

theorem heard_abandon (s : State) : Heard s (s.withPort s.port.abandon) := .withPort s rfl rfl rfl fun _ => rfl

theorem judgeFrame_port (bytes : List Byte) (s : State) : PortEffect s (judgeFrame bytes s) := by
  unfold judgeFrame
  dsimp only
  split
  · exact .framed _ _ (heard_hunt s)
  · exact .heard _ ⟨rfl, rfl, rfl, fun _ _ => rfl, .inl rfl⟩

theorem receiveByte_port (b : Byte) (lineError : Bool) (s : State) : PortEffect s (receiveByte b lineError s) := by
  unfold receiveByte
  split
  · split
    · exact .heard _ (.withPort s rfl rfl rfl nofun)
    · exact .heard _ (.refl s)
  · split
    · exact .heard _ (heard_abandon s)
    · dsimp only
      split
      · exact .heard _ (heard_abandon s)
      · split
        · exact judgeFrame_port _ s
        · exact .heard _ (.withPort s rfl rfl rfl nofun)

theorem endReply_port {s : State} (h : s.port.replyDone s.clock = true) : PortEffect s (endReply s) := by
  unfold endReply
  split
  · exact .reset _ _
  · next unordered =>
    cases ht : s.port.tx with
    | none => simp [Port.replyDone, ht, dueAt] at h
    | some x => exact .replied x ht (by simpa [Port.resetOrdered, ht] using unordered)

theorem permitExpired_heard (s : State) : Heard s (permitExpired s) := by
  have claimed (u : State) : SameBut claimBlocks u (claimRemoved s.permit.mask u) := sameBut_claimRemoved u _
  refine .of_port ?_ (.inr ?_)
  · rw [permitExpired, claimed _ .port (by decide)]
    rfl
  · rw [permitExpired, claimed _ .permit (by decide)]
    rfl

theorem effect_port (i : Instr) (s : State) : PortEffect s (effect i s) := by
  cases hf : i.frame? with
  | some f =>
    rw [effect_frame i f s hf]
    exact .framed f s (.refl s)
  | none =>
    cases i with
    | coldReset lines => exact .reset lines _
    | portReset => exact ite_keeps (.reset _ _) (.heard s (.refl s))
    | mpFrameComplete b => exact ite_keeps (receiveByte_port b false s) (.heard s (.refl s))
    | gapTimerExpiry => exact ite_keeps (.heard _ (heard_abandon s)) (.heard s (.refl s))
    | replySent =>
      unfold effect
      dsimp only
      split
      · next done => exact endReply_port done
      · exact .heard s (.refl s)
    | mpByteReceived b e => exact receiveByte_port b e s
    | permitTimerExpiry => exact ite_keeps (.heard _ (permitExpired_heard s)) (.heard s (.refl s))
    | _ =>
      have same := sameBut_effect _ s hf rfl rfl
      exact .heard _ (.of_port (same .port (by simp [eventBlocks, claimBlocks]))
        (.inl (congrArg Permit.mask (same .permit (by simp [eventBlocks, claimBlocks])))))

theorem tripEvent_permit_mask (s : State) : (tripEvent s).permit.mask = 0#4 := by rw [tripEvent_permit]

theorem settle_heard (s : State) : Heard s (settle s) := by
  refine .of_port (sameBut_settle s .port (by decide)) ?_
  cases fresh : (handConditions s).mon.tripSet && !(handConditions s).mon.tripOut with
  | true =>
    rw [settle_trip s fresh]
    exact .inr (tripEvent_permit_mask _)
  | false =>
    rw [settle_noTrip s fresh]
    exact .inl rfl

/-! ## The taking of a request -/

/-- A performed request changes neither the receiver nor the queue nor the transmitter. -/
theorem perform_port (k : ReqKind) (held : Bool) (body : List Byte) (s : State) :
    (perform k held body s).1.port.queue = s.port.queue ∧ (perform k held body s).1.port.rx = s.port.rx
      ∧ (perform k held body s).1.port.gapDue = s.port.gapDue := by
  have untouched (h : Block.port ∉ requestBlocks k) : (perform k held body s).1.port.queue = s.port.queue
      ∧ (perform k held body s).1.port.rx = s.port.rx ∧ (perform k held body s).1.port.gapDue = s.port.gapDue := by
    have same : (perform k held body s).1.port = s.port := sameBut_perform s body k held .port h
    rw [same]
    exact ⟨rfl, rfl, rfl⟩
  cases k with
  | portCounters => exact ⟨rfl, rfl, rfl⟩
  | resetPrepare =>
    simp only [perform, reqResetPrepare]
    split <;> exact ⟨rfl, rfl, rfl⟩
  | _ => exact untouched (by decide)

theorem examine_port (f : Frame) (held : Bool) (s : State) :
    (examine f held s).1.port.queue = s.port.queue ∧ (examine f held s).1.port.rx = s.port.rx
      ∧ (examine f held s).1.port.gapDue = s.port.gapDue := by
  unfold examine
  split
  · exact ⟨rfl, rfl, rfl⟩
  · split
    · exact perform_port _ _ _ s
    · exact ⟨rfl, rfl, rfl⟩

theorem takeRequest_queue (f : Frame) (s : State) : (takeRequest f s).port.queue = s.port.queue :=
  (examine_port f s.port.prepared s.taking).1

theorem takeRequest_listens {f : Frame} {s : State} (h : s.port.Listens) : (takeRequest f s).port.Listens := by
  obtain ⟨_, rx, gapDue⟩ := examine_port f s.port.prepared s.taking
  intro hunting
  exact gapDue.trans (h (rx.symm.trans hunting))

/-! ## The input queue (R182) -/

theorem takeNext_queue (s : State) : (takeNext s).port.queue.length ≤ s.port.queue.length := by
  unfold takeNext
  split
  · next hq =>
    rw [takeRequest_queue, hq]
    exact Nat.le_succ _
  · exact Nat.le_refl _

theorem acceptFrame_queue (f : Frame) (s : State) (h : s.port.queue.length ≤ 4) :
    (acceptFrame f s).port.queue.length ≤ 4 := by
  have capacity : Config.inputQueueCapacity = 4 := rfl
  unfold acceptFrame
  split
  · next room =>
    refine (takeNext_queue _).trans ?_
    rw [State.withPort_port, List.length_append, List.length_singleton]
    omega
  · exact h

/-- The input queue holds at most four frames after every step. -/
theorem step_queue {s t : State} (h : s.port.queue.length ≤ 4) (ht : step s = .next t) : t.port.queue.length ≤ 4 := by
  obtain ⟨i, q, k, rfl⟩ | rfl := step_cases ht
  · rw [(settle_heard _).queue]
    generalize hu : (s.withPending q).withFree k = u
    have queued : u.port.queue.length ≤ 4 := hu ▸ h
    have event := effect_port i u
    generalize effect i u = v at event ⊢
    cases event with
    | reset => exact Nat.zero_le 4
    | framed f v heard => exact acceptFrame_queue f v (heard.queue ▸ queued)
    | replied => exact (takeNext_queue _).trans queued
    | heard _ heard => exact heard.queue ▸ queued
  · exact h

/-- Settles O6, store by store. -/
theorem stepKeepsCapacityAndOrder : Obligations.StepKeepsCapacityAndOrder := by
  rintro s t ⟨pending, log, queue, stores⟩ ordered h
  have road := kept_road.step_keeps s t ⟨pending, (RoadQueue.ordered_iff s).mpr ordered⟩ h
  have rings := kept_rings.step_keeps s t (fun g => ⟨(stores g (mem_allFour g)).1, (stores g (mem_allFour g)).2.1⟩) h
  have history := moveKept_history.kept.step_keeps s t (fun g => (stores g (mem_allFour g)).2.2) h
  exact ⟨⟨road.room, kept_log.step_keeps s t log h, step_queue queue h,
    fun g _ => ⟨(rings g).1, (rings g).2, history g⟩⟩, (RoadQueue.ordered_iff t).mp road.ordered⟩

/-! ## The preparation (R190, R191, R192) -/

theorem Heard.portSound {s t : State} (h : Heard s t) (hs : PortSound s) : PortSound t := by
  obtain ⟨listens, idle, prepared, ordered⟩ := hs
  have emptied (hm : s.permit.mask = 0#4) : t.permit.mask = 0#4 := h.mask.elim (·.trans hm) id
  have order : t.port.resetOrdered = s.port.resetOrdered := by rw [Port.resetOrdered, h.tx, Port.resetOrdered]
  exact ⟨h.listens listens, fun tx => h.queue.trans (idle (h.tx ▸ tx)), fun p => emptied (prepared (h.prepared ▸ p)),
    fun o => emptied (ordered (order ▸ o))⟩

/-- Only RESET PREPARE prepares, with an empty permit mask (R190). -/
theorem perform_prepared {k : ReqKind} {held : Bool} {body : List Byte} {s : State} (h : s.port.prepared = false)
    (hp : (perform k held body s).1.port.prepared = true) : (perform k held body s).1.permit.mask = 0#4 := by
  have untouched (hk : Block.port ∉ requestBlocks k) : (perform k held body s).1.permit.mask = 0#4 := by
    have same : (perform k held body s).1.port = s.port := sameBut_perform s body k held .port hk
    rw [same, h] at hp
    cases hp
  cases k with
  | portCounters => exact absurd hp (by simp [perform, reqPortCounters, h])
  | resetPrepare =>
    simp only [perform, reqResetPrepare] at hp ⊢
    split at hp
    · next empty => rwa [if_pos empty]
    · rw [h] at hp
      cases hp
  | _ => exact untouched (by decide)

/-- The taking of a request leaves the port sound: what it clears, only a RESET PREPARE holds again, and only a held
preparation lets a RESET EXECUTE order the reset. -/
theorem takeRequest_portSound {f : Frame} {s : State} (listens : s.port.Listens)
    (prepared : s.port.prepared = true → s.permit.mask = 0#4) : PortSound (takeRequest f s) := by
  refine ⟨takeRequest_listens listens, nofun, fun hp => ?_, fun ho => ?_⟩
  · have clear : s.taking.port.prepared = false := rfl
    have examined : (examine f s.port.prepared s.taking).1.port.prepared = true := hp
    show (examine f s.port.prepared s.taking).1.permit.mask = 0#4
    unfold examine at examined ⊢
    split at examined
    · rw [clear] at examined
      cases examined
    · split at examined
      · next ok =>
        rw [if_pos ok]
        exact perform_prepared clear examined
      · rw [clear] at examined
        cases examined
  · have ordered : ordersReset f (examine f s.port.prepared s.taking).2 = true := ho
    rw [ordersReset, Bool.and_eq_true, beq_iff_eq, beq_iff_eq] at ordered
    obtain ⟨code, ok⟩ := ordered
    have kind : ReqKind.ofCode f.code = some .resetExecute := by rw [code]; rfl
    show (examine f s.port.prepared s.taking).1.permit.mask = 0#4
    unfold examine at ok ⊢
    rw [kind] at ok ⊢
    dsimp only at ok ⊢
    split at ok
    · next length =>
      rw [if_pos length]
      simp only [perform, reqResetExecute] at ok ⊢
      split at ok
      · next held =>
        rw [if_pos held]
        exact prepared held
      · cases ok
    · cases ok

theorem takeNext_portSound {s : State} (listens : s.port.Listens)
    (prepared : s.port.prepared = true → s.permit.mask = 0#4)
    (ordered : s.port.resetOrdered = true → s.permit.mask = 0#4) : PortSound (takeNext s) := by
  unfold takeNext
  split
  · exact takeRequest_portSound listens prepared
  · next waits =>
    refine ⟨listens, fun idle => ?_, prepared, ordered⟩
    cases hq : s.port.queue with
    | nil => rfl
    | cons f rest => exact absurd hq (waits f rest idle)

theorem PortEffect.portSound {s t : State} (e : PortEffect s t) (hs : PortSound s) : PortSound t := by
  cases e with
  | reset => exact ⟨fun _ => rfl, fun _ => rfl, nofun, nofun⟩
  | framed f u heard =>
    obtain ⟨listens, idle, prepared, ordered⟩ := heard.portSound hs
    unfold acceptFrame
    split
    · exact takeNext_portSound (s := u.withPort { u.port with queue := u.port.queue ++ [f] }) listens prepared ordered
    · exact ⟨listens, idle, prepared, ordered⟩
  | replied x tx unordered =>
    obtain ⟨listens, _, prepared, _⟩ := hs
    exact takeNext_portSound (s := s.withPort { s.port with tx := none }) listens prepared nofun
  | heard _ heard => exact heard.portSound hs

theorem step_portSound {s t : State} (hs : PortSound s) (h : step s = .next t) : PortSound t := by
  obtain ⟨i, q, k, rfl⟩ | rfl := step_cases h
  · exact (settle_heard _).portSound ((effect_port i _).portSound hs)
  · exact hs

/-! ## The permit timer (R130) -/

theorem permitTimed_congr {s t : State} (h : PermitTimed s) (ht : t.permit = s.permit) : PermitTimed t := by
  rwa [PermitTimed, ht]

theorem permitTimed_withdrawn {t : State} (mask : t.permit.mask = 0#4) (due : t.permit.due = none) : PermitTimed t := by
  simp [PermitTimed, mask, due]

theorem claimRemoved_permit (removed : BitVec 4) (s : State) : (claimRemoved removed s).permit = s.permit :=
  sameBut_claimRemoved s removed .permit (by decide)

theorem grant_timed {p : Permit} (h : p.mask ≠ 0#4 ↔ p.due.isSome = true) (m : BitVec 4) (now : CellTime) :
    (p.grant m now).mask ≠ 0#4 ↔ (p.grant m now).due.isSome = true := by
  unfold Permit.grant
  split
  · next empty => simp [empty]
  · next given =>
    split
    · simp [given]
    · next running => simpa [given] using h.mp running

theorem kept_permitTimed : Kept [.permit] PermitTimed where
  inner := by decide
  reads s t same h := permitTimed_congr h (same .permit (by decide))
  reset s lines alerts _ := permitTimed_withdrawn rfl rfl
  request k held body s hk h := by
    cases k with
    | permitTime =>
      simp only [perform, reqPermitTime]
      split <;> exact h
    | permitGrant =>
      simp only [perform, reqPermitGrant]
      split
      · exact h
      · split
        · exact h
        · split
          · exact h
          · next m _ _ _ =>
            exact permitTimed_congr (s := s.withPermit (s.permit.grant m s.clock)) (grant_timed h m s.clock)
              (claimRemoved_permit _ _)
    | permitRenew =>
      simp only [perform, reqPermitRenew]
      split
      · exact h
      · split
        · next renewed => exact ⟨fun _ => rfl, fun _ => h.mpr renewed.1⟩
        · exact h
    | _ => cases hk
  event i s hi h := by
    cases i with
    | permitTimerExpiry =>
      refine ite_keeps ?_ h
      have permit : (permitExpired s).permit = { s.permit with mask := 0#4, due := none } :=
        claimRemoved_permit _ _
      exact permitTimed_withdrawn (by rw [permit]) (by rw [permit])
    | _ => cases hi
  settles s h := by
    cases fresh : (handConditions s).mon.tripSet && !(handConditions s).mon.tripOut with
    | true =>
      rw [settle_trip s fresh]
      obtain ⟨mask, due, _⟩ := quiescent_tripEvent (handConditions s)
      exact permitTimed_withdrawn mask due
    | false =>
      rw [settle_noTrip s fresh]
      exact h

/-- Settles O13. -/
theorem stepKeepsPermitAndPort : Obligations.StepKeepsPermitAndPort := by
  intro s t timed port h
  exact ⟨kept_permitTimed.step_keeps s t timed h, step_portSound port h⟩

end Sys2Proof.Machine
end

section
/-! SUPPORT. The invariant of the filtered flags (R142, R145, R146, R148, R149, R153). -/

set_option Elab.async false

namespace Sys2Proof.Machine

theorem PerKind.get_set {α : Type} (t : PerKind α) (k j : FilterKind) (a : α) :
    (t.set k a).get j = if j = k then a else t.get j := by
  cases k <;> cases j <;> rfl

/-! ## One flag -/

/-- What a flag's timer, state and level must be, by its kind's enable and filter time. -/
structure Filtered.Sound (enabled : Bool) (time : Nat) (f : Filtered) : Prop where
  timer : f.due.isSome = true ↔ f.state = .pending
  present : f.state = .pending → f.level = true
  disabled : enabled = false → f.state = .clear
  following : time = 0 → f.state ≠ .pending
  absent : enabled = true → time ≠ 0 → f.state = .clear → f.level = false

namespace Filtered.Sound

variable {enabled : Bool} {time : Nat} {f : Filtered} (h : f.Sound enabled time)

theorem reset (enabled : Bool) (time : Nat) : Filtered.reset.Sound enabled time := by
  constructor <;> simp [Filtered.reset]

/-- A CLEAR flag with its condition present, of an enabled kind, starts its timer or follows (R145, R146). -/
theorem appear (now : CellTime) {g : Filtered} (hs : g.state = .clear) (hd : g.due = none) (hl : g.level = true)
    (on : enabled = true) : (g.appear now time).Sound enabled time := by
  unfold Filtered.appear
  split
  · next zero => constructor <;> simp [hs, hd, zero]
  · next long => constructor <;> simp [hl, on, long]

include h

theorem due_eq_none (hs : f.state ≠ .pending) : f.due = none := by
  have timer := h.timer
  cases hd : f.due with
  | none => rfl
  | some d => exact absurd (timer.mp (by rw [hd]; rfl)) hs

theorem hand (now : CellTime) (level : Bool) : (f.hand enabled time now level).Sound enabled time := by
  unfold Filtered.hand
  split
  · exact h
  · next changed =>
    dsimp only
    split
    · next off =>
      have clear := h.disabled off
      have due := h.due_eq_none (by simp [clear])
      constructor <;> simp [clear, due, off]
    · next on =>
      have on : enabled = true := by simpa using on
      cases hs : f.state with
      | clear =>
        have due := h.due_eq_none (by simp [hs])
        cases level with
        | true => exact appear now rfl due rfl on
        | false => constructor <;> simp [due]
      | pending =>
        have present := h.present hs
        cases level with
        | true => exact absurd present.symm changed
        | false => constructor <;> simp
      | latched =>
        have due := h.due_eq_none (by simp [hs])
        constructor <;> simp [due, on]

theorem expire (hs : f.state = .pending) : f.expire.Sound enabled time := by
  have on : enabled = true := by
    cases he : enabled with
    | true => rfl
    | false => rw [h.disabled he] at hs; cases hs
  constructor <;> simp [Filtered.expire, on]

theorem clearNamed (now : CellTime) : (f.clearNamed time now).Sound enabled time := by
  unfold Filtered.clearNamed
  split
  · next hs =>
    have on : enabled = true := by
      cases he : enabled with
      | true => rfl
      | false => rw [h.disabled he] at hs; cases hs
    dsimp only
    split
    · next present => exact appear now rfl rfl present on
    · next gone => constructor <;> simp [gone]
  all_goals exact h

/-- A new filter time of a disabled kind. -/
theorem retime_disabled (off : enabled = false) (new : Nat) : f.Sound enabled new := by
  have clear := h.disabled off
  have due := h.due_eq_none (by simp [clear])
  constructor <;> simp [clear, due, off]

/-- A new filter time of an enabled kind (R148). -/
theorem retime (on : enabled = true) (new : Nat) : (f.retime time new).Sound enabled new := by
  unfold Filtered.retime
  by_cases same : time = new
  · rw [if_pos same, ← same]
    exact h
  · rw [if_neg same]
    by_cases zero : new = 0
    · rw [if_pos zero]
      cases hs : f.state with
      | pending => constructor <;> simp [zero]
      | clear | latched =>
        have due := h.due_eq_none (by simp [hs])
        constructor <;> simp [hs, due, zero, on]
    · rw [if_neg zero]
      by_cases followed : time = 0
      · rw [if_pos followed]
        cases hs : f.state with
        | pending => exact absurd hs (h.following followed)
        | latched =>
          have due := h.due_eq_none (by simp [hs])
          constructor <;> simp [hs, due, on]
        | clear =>
          have due := h.due_eq_none (by simp [hs])
          cases hl : f.level <;> constructor <;> simp [hs, due, hl, on]
      · rw [if_neg followed]
        exact ⟨h.timer, h.present, h.disabled, fun e => absurd e zero, fun e _ => h.absent e followed⟩

omit h in
theorem disable (time : Nat) (f : Filtered) : f.disable.Sound false time := by
  constructor <;> simp [Filtered.disable]

/-- A kind that was disabled is enabled (R149). -/
theorem enable (off : enabled = false) (now : CellTime) : (f.enable time now).Sound true time := by
  have clear := h.disabled off
  have due := h.due_eq_none (by simp [clear])
  unfold Filtered.enable
  split
  · next present => exact appear now clear due present rfl
  · next gone => constructor <;> simp [clear, due, gone]

end Filtered.Sound

/-! ## The table of flags -/

/-- Every filtered flag of a monitor is sound. -/
def Monitor.FiltersOk (m : Monitor) : Prop :=
  ∀ i : FilteredId, (m.flags.get i).Sound (m.enabled.get i.kind) (m.times.get i.kind)

theorem filtersSound_iff (s : State) : FiltersSound s ↔ s.mon.FiltersOk := by
  constructor
  · intro h i
    obtain ⟨timer, present, disabled, following, absent⟩ := h i (mem_filteredIds i)
    exact ⟨timer, present, disabled, following, absent⟩
  · intro h i _
    exact ⟨(h i).timer, (h i).present, (h i).disabled, (h i).following, (h i).absent⟩

namespace Monitor.FiltersOk

variable {m : Monitor} (h : m.FiltersOk)
include h

theorem handAll (now : CellTime) (levels : FilteredId → Bool) : (m.handAll now levels).FiltersOk := by
  intro i
  simp only [Monitor.handAll, FilteredFlags.get_mapIds]
  exact (h i).hand now (levels i)

theorem expire {i : FilteredId} (hs : (m.flags.get i).state = .pending) : (m.mapFlag i Filtered.expire).FiltersOk := by
  intro j
  simp only [Monitor.mapFlag, FilteredFlags.get_mapIds]
  split
  · next same => exact (h j).expire (same ▸ hs)
  · exact h j

theorem clearFlags (w : BitVec 34) (now : CellTime) : (m.clearFlags w now).FiltersOk := by
  intro i
  simp only [Monitor.clearFlags, FilteredFlags.get_mapIds]
  split
  · exact (h i).clearNamed now
  · exact h i

theorem setFilter (k : FilterKind) (t : Nat) : (m.setFilter k t).FiltersOk := by
  intro i
  unfold Monitor.setFilter
  dsimp only
  split
  · next on =>
    simp only [Monitor.mapKind, FilteredFlags.get_mapIds, PerKind.get_set]
    split
    · next same =>
      rw [← same] at on ⊢
      exact (h i).retime on t
    · exact h i
  · next off =>
    dsimp only
    rw [PerKind.get_set]
    split
    · next same =>
      rw [← same, Bool.not_eq_true] at off
      exact (h i).retime_disabled off t
    · exact h i

theorem setSource (k : FilterKind) (on : Bool) (now : CellTime) : (m.setSource k on now).FiltersOk := by
  intro i
  unfold Monitor.setSource
  dsimp only
  split
  · next turnedOn =>
    split
    · exact h i
    · next off =>
      simp only [Monitor.mapKind, FilteredFlags.get_mapIds, PerKind.get_set]
      split
      · next same =>
        rw [turnedOn]
        rw [← same, Bool.not_eq_true] at off
        rw [← same]
        exact (h i).enable off now
      · exact h i
  · next turnedOff =>
    simp only [Monitor.mapKind, FilteredFlags.get_mapIds, PerKind.get_set]
    split
    · rw [Bool.not_eq_true] at turnedOff
      rw [turnedOff]
      exact Filtered.Sound.disable _ _
    · exact h i

end Monitor.FiltersOk

theorem filtersOk_congr {m n : Monitor} (h : m.FiltersOk)
    (hn : (n.flags, n.times, n.enabled) = (m.flags, m.times, m.enabled)) : n.FiltersOk := by
  simp only [Prod.mk.injEq] at hn
  obtain ⟨flags, times, enabled⟩ := hn
  intro i
  rw [flags, times, enabled]
  exact h i

theorem kept_filters : Kept [.filters] (fun s => s.mon.FiltersOk) where
  inner := by decide
  reads s t same h := filtersOk_congr h (same .filters (by decide))
  reset s lines alerts _ i := by
    have clear : (State.base s.cal.records lines alerts s.pending s.freeCount).mon.flags.get i = Filtered.reset := by
      cases i <;> simp [State.base, Monitor.reset, FilteredFlags.reset, FilteredFlags.get]
    rw [clear]
    exact Filtered.Sound.reset _ _
  request k held body s hk h := by
    cases k with
    | filterSet =>
      simp only [perform, reqFilterSet]
      split
      · exact h
      · exact h.setFilter _ _
    | sourceEnable =>
      simp only [perform, reqSourceEnable]
      split
      · exact h
      · exact h.setSource _ _ _
    | flagsClear =>
      simp only [perform, reqFlagsClear]
      split
      · exact h
      · exact h.clearFlags _ _
    | _ => cases hk
  event i s hi h := by
    cases i with
    | filterTimerExpiry j =>
      unfold effect
      dsimp only
      split
      · next due =>
        rw [Filtered.expiryDue, Bool.and_eq_true, beq_iff_eq] at due
        exact h.expire due.1
      · exact h
    | _ => cases hi
  settles s h := by
    have handed : (handConditions s).mon.FiltersOk := h.handAll s.clock s.condition
    cases fresh : (handConditions s).mon.tripSet && !(handConditions s).mon.tripOut with
    | true =>
      rw [settle_trip s fresh]
      have tripped : (tripEvent (handConditions s)).mon.FiltersOk :=
        filtersOk_congr handed (sameBut_tripEvent (handConditions s) .filters (by decide))
      exact tripped.handAll _ _
    | false =>
      rw [settle_noTrip s fresh]
      exact handed

/-- Settles O14. -/
theorem stepKeepsFiltersSound : Obligations.StepKeepsFiltersSound := by
  intro s t hs h
  exact (filtersSound_iff t).mpr (kept_filters.step_keeps s t ((filtersSound_iff s).mp hs) h)

end Sys2Proof.Machine
end

section
/-! SUPPORT. The invariant of a drive link: its timers and fields by its state (sections 2.1 and 2.4, R24 to R38). -/

set_option Elab.async false

namespace Sys2Proof.Machine

/-! ## One link -/

/-- The fields that are held in UP alone (R38). -/
structure Link.Idle (l : Link) : Prop where
  good : l.good = false
  ready : l.ready = false
  fault : l.fault = false
  mismatch : l.mismatch = false
  force : l.force = none
  driveSpeed : l.driveSpeed = none
  lastSent : l.lastSent = none
  outstanding : l.outstanding = none

/-- What the timers and fields of a link must be in each of its states. -/
structure Link.Fits (on : Bool) (l : Link) : Prop where
  quiet : l.quietDue.isSome = true ↔ l.state = .quiet
  offer : l.offerDue.isSome = l.state.settling
  negotiation : l.negotiationDue.isSome = l.state.settling
  update : l.updateDue.isSome = true ↔ l.state = .up
  up : l.state = .up → l.mode.isSome = true ∧ l.ceiling.isSome = true ∧ l.missingRun < 3
  idle : l.state ≠ .up → l.Idle
  recorded : l.state = .acknowledge ∨ l.state = .confirm → l.recorded.isSome = true
  enabled : on = true ↔ l.state ≠ .off

theorem linkTimed_iff (s : State) :
    LinkTimed s ↔ ∀ n, (s.links.get n).Fits (s.settings.get n).linkEnable := by
  constructor
  · intro h n
    obtain ⟨quiet, offer, negotiation, update, up, idle, recorded, enabled⟩ := h n (mem_allFour n)
    refine ⟨quiet, offer, negotiation, update, up, fun hs => ?_, recorded, enabled⟩
    obtain ⟨good, ready, fault, mismatch, force, driveSpeed, lastSent, outstanding⟩ := idle hs
    exact ⟨good, ready, fault, mismatch, force, driveSpeed, lastSent, outstanding⟩
  · intro h n _
    obtain ⟨quiet, offer, negotiation, update, up, idle, recorded, enabled⟩ := h n
    refine ⟨quiet, offer, negotiation, update, up, fun hs => ?_, recorded, enabled⟩
    obtain ⟨good, ready, fault, mismatch, force, driveSpeed, lastSent, outstanding⟩ := idle hs
    exact ⟨good, ready, fault, mismatch, force, driveSpeed, lastSent, outstanding⟩

theorem leaveUp_idle (l : Link) : l.leaveUp.Idle := ⟨rfl, rfl, rfl, rfl, rfl, rfl, rfl, rfl⟩

namespace Link.Idle

variable {l : Link} (h : l.Idle)
include h

/-- The negotiation's own fields are not among them. -/
theorem congr {m : Link} (hm : (m.good, m.ready, m.fault, m.mismatch, m.force, m.driveSpeed, m.lastSent, m.outstanding)
    = (l.good, l.ready, l.fault, l.mismatch, l.force, l.driveSpeed, l.lastSent, l.outstanding)) : m.Idle := by
  simp only [Prod.mk.injEq] at hm
  obtain ⟨good, ready, fault, mismatch, force, driveSpeed, lastSent, outstanding⟩ := hm
  exact ⟨good.trans h.good, ready.trans h.ready, fault.trans h.fault, mismatch.trans h.mismatch, force.trans h.force,
    driveSpeed.trans h.driveSpeed, lastSent.trans h.lastSent, outstanding.trans h.outstanding⟩

theorem toQuiet (now : CellTime) : (l.toQuiet now).Fits true := by
  refine ⟨?_, ?_, ?_, ?_, ?_, fun _ => h.congr rfl, ?_, ?_⟩
  all_goals simp [Link.toQuiet, Link.stopTimers, Link.forget, LinkState.settling]

theorem toOff : l.toOff.Fits false := by
  refine ⟨?_, ?_, ?_, ?_, ?_, fun _ => h.congr rfl, ?_, ?_⟩
  all_goals simp [Link.toOff, Link.stopTimers, Link.forget, LinkState.settling]

theorem toNoMatch : l.toNoMatch.Fits true := by
  refine ⟨?_, ?_, ?_, ?_, ?_, fun _ => h.congr rfl, ?_, ?_⟩
  all_goals simp [Link.toNoMatch, Link.stopTimers, LinkState.settling]

omit h in
theorem toUp (now : CellTime) (m : LinkMode) (c : Nat) (l : Link) : (l.toUp now m c).Fits true := by
  refine ⟨?_, ?_, ?_, ?_, ?_, fun hs => absurd rfl hs, ?_, ?_⟩
  all_goals simp [Link.toUp, LinkState.settling]

omit h in
theorem lose (now : CellTime) (auto : Bool) (l : Link) : (l.lose now auto).Fits true := by
  have left := leaveUp_idle l
  unfold Link.lose
  split
  · exact left.toQuiet now
  · refine ⟨?_, ?_, ?_, ?_, ?_, fun _ => left.congr rfl, ?_, ?_⟩
    all_goals simp [Link.stopTimers, LinkState.settling]

theorem resolve (now : CellTime) (t : Settings) : (l.resolve now t).Fits true := by
  unfold Link.resolve
  split
  · exact h.toNoMatch
  · split
    · exact h.toNoMatch
    · exact toUp now _ _ l

theorem resolvePlain (now : CellTime) (t : Settings) : (l.resolvePlain now t).Fits true := by
  unfold Link.resolvePlain
  split
  · exact toUp now _ _ _
  · exact h.toNoMatch

end Link.Idle

namespace Link.Fits

variable {l : Link} {on : Bool} (h : l.Fits on)
include h

theorem leaveIfUp_idle : l.leaveIfUp.Idle := by
  unfold Link.leaveIfUp
  split
  · exact leaveUp_idle l
  · next hs => exact h.idle hs

theorem on_of_state (hs : l.state ≠ .off) : on = true := h.enabled.mpr hs

/-- A link that stays in its state, with its timers and what it holds in UP. -/
theorem stays {m : Link} (hm : (m.state, m.quietDue, m.offerDue, m.negotiationDue, m.updateDue, m.mode, m.ceiling,
      m.missingRun) = (l.state, l.quietDue, l.offerDue, l.negotiationDue, l.updateDue, l.mode, l.ceiling, l.missingRun))
    (idle : l.state ≠ .up → m.Idle) (recorded : l.recorded.isSome = true → m.recorded.isSome = true) : m.Fits on := by
  simp only [Prod.mk.injEq] at hm
  obtain ⟨state, quiet, offer, negotiation, update, mode, ceiling, run⟩ := hm
  refine ⟨?_, ?_, ?_, ?_, ?_, ?_, ?_, ?_⟩
  · rw [quiet, state]; exact h.quiet
  · rw [offer, state]; exact h.offer
  · rw [negotiation, state]; exact h.negotiation
  · rw [update, state]; exact h.update
  · rw [state, mode, ceiling, run]; exact h.up
  · rw [state]; exact idle
  · rw [state]; exact fun hs => recorded (h.recorded hs)
  · rw [state]; exact h.enabled

/-- A link that moves among OFFER, ACKNOWLEDGE and CONFIRM with its timers running. -/
theorem settles {m : Link} (hs : l.state.settling = true) (hm : m.state.settling = true)
    (timers : (m.quietDue, m.negotiationDue, m.updateDue) = (l.quietDue, l.negotiationDue, l.updateDue))
    (offer : m.offerDue.isSome = true)
    (idle : (m.good, m.ready, m.fault, m.mismatch, m.force, m.driveSpeed, m.lastSent, m.outstanding)
      = (l.good, l.ready, l.fault, l.mismatch, l.force, l.driveSpeed, l.lastSent, l.outstanding))
    (recorded : m.state = .acknowledge ∨ m.state = .confirm → m.recorded.isSome = true) : m.Fits on := by
  simp only [Prod.mk.injEq] at timers
  obtain ⟨quiet, negotiation, update⟩ := timers
  have apart {k : Link} (hk : k.state.settling = true) : k.state ≠ .quiet ∧ k.state ≠ .up ∧ k.state ≠ .off := by
    refine ⟨?_, ?_, ?_⟩ <;> intro e <;> rw [e] at hk <;> cases hk
  obtain ⟨notQuiet, notUp, notOff⟩ := apart hs
  obtain ⟨notQuiet', notUp', notOff'⟩ := apart hm
  refine ⟨?_, ?_, ?_, ?_, fun e => absurd e notUp', fun _ => (h.idle notUp).congr idle, recorded, ?_⟩
  · rw [quiet]; exact ⟨fun e => absurd (h.quiet.mp e) notQuiet, fun e => absurd e notQuiet'⟩
  · rw [offer, hm]
  · rw [negotiation, h.negotiation, hs, hm]
  · rw [update]; exact ⟨fun e => absurd (h.update.mp e) notUp, fun e => absurd e notUp'⟩
  · exact ⟨fun _ => notOff', fun _ => h.on_of_state notOff⟩

theorem offering (hs : l.state.settling = true) : l.offerDue.isSome = true := h.offer.trans hs

theorem idle_of_settling (hs : l.state.settling = true) : l.Idle := by
  refine h.idle fun e => ?_
  rw [e] at hs
  cases hs

theorem backToOffer (hs : l.state.settling = true) (c : Option OfferContent) : (l.backToOffer c).Fits on :=
  h.settles hs rfl rfl (h.offering hs) rfl (by simp [Link.backToOffer])

theorem offerInOffer (hs : l.state = .offer) (w : OfferWord) : (l.offerInOffer w).Fits on := by
  have settling : l.state.settling = true := by rw [hs]; rfl
  unfold Link.offerInOffer
  exact ite_keeps (Inv := Link.Fits on) (h.settles settling rfl rfl (h.offering settling) rfl fun _ => rfl)
    (h.stays rfl (fun e => (h.idle e).congr rfl) id)

theorem statusInOffer (hs : l.state = .offer) (now : CellTime) (t : Settings) : (l.statusInOffer now t).Fits on := by
  have settling : l.state.settling = true := by rw [hs]; rfl
  have idle := h.idle_of_settling settling
  unfold Link.statusInOffer
  dsimp only
  split
  · rw [h.on_of_state (by simp [hs])]
    refine Link.Idle.resolvePlain ?_ now t
    exact idle.congr rfl
  · exact h.stays rfl (fun e => (h.idle e).congr rfl) id

theorem offerInAcknowledge (hs : l.state = .acknowledge) (w : OfferWord) : (l.offerInAcknowledge w).Fits on := by
  have settling : l.state.settling = true := by rw [hs]; rfl
  unfold Link.offerInAcknowledge
  split
  · exact ite_keeps (Inv := Link.Fits on) (h.settles settling rfl rfl (h.offering settling) rfl fun _ => rfl)
      (h.stays rfl (fun e => (h.idle e).congr rfl) fun _ => rfl)
  · exact h.backToOffer settling _

theorem offerInConfirm (hs : l.state = .confirm) (w : OfferWord) : (l.offerInConfirm w).Fits on := by
  have settling : l.state.settling = true := by rw [hs]; rfl
  unfold Link.offerInConfirm
  split
  · exact h.stays rfl (fun e => (h.idle e).congr rfl) fun _ => rfl
  · exact h.backToOffer settling _

theorem offerTick (now : CellTime) (t : Settings) : (l.offerTick now t).Fits on := by
  unfold Link.offerTick
  split
  case h_1 hs =>
    have settling : l.state.settling = true := by rw [hs]; rfl
    exact h.settles settling settling rfl rfl rfl h.recorded
  case h_2 hs =>
    have settling : l.state.settling = true := by rw [hs]; rfl
    exact h.settles settling settling rfl rfl rfl h.recorded
  case h_3 hs =>
    have settling : l.state.settling = true := by rw [hs]; rfl
    dsimp only
    split
    · rw [h.on_of_state (by simp [hs])]
      refine Link.Idle.resolve ?_ now t
      exact (h.idle_of_settling settling).congr rfl
    · exact h.settles settling settling rfl rfl rfl h.recorded
  all_goals exact h

theorem quietEnd (hs : l.state = .quiet) (now : CellTime) (t : Settings) : (l.quietEnd now t).Fits on := by
  have idle := h.idle (by simp [hs])
  have update : l.updateDue = none := by
    have running := h.update
    cases hu : l.updateDue with
    | none => rfl
    | some d =>
      rw [hu, hs] at running
      exact absurd (running.mp rfl) (by decide)
  refine ⟨?_, rfl, rfl, ?_, ?_, fun _ => idle.congr rfl, ?_, ?_⟩
  all_goals simp [Link.quietEnd, Link.send, update, h.on_of_state, hs]

theorem settingsChanged (old new : Settings) : (l.settingsChanged old new).Fits on := by
  unfold Link.settingsChanged
  split
  case h_1 hs | h_2 hs =>
    have settling : l.state.settling = true := by rw [hs]; rfl
    exact ite_keeps (Inv := Link.Fits on) (h.backToOffer settling _) h
  all_goals exact h

/-- A link that stays UP. -/
theorem staysUp {m : Link} (hs : l.state = .up) (hm : m.state = .up)
    (same : (m.quietDue, m.offerDue, m.negotiationDue, m.mode, m.ceiling)
      = (l.quietDue, l.offerDue, l.negotiationDue, l.mode, l.ceiling))
    (update : m.updateDue.isSome = true) (run : m.missingRun < 3) : m.Fits on := by
  simp only [Prod.mk.injEq] at same
  obtain ⟨quiet, offer, negotiation, mode, ceiling⟩ := same
  have state : m.state = l.state := hm.trans hs.symm
  refine ⟨?_, ?_, ?_, ⟨fun _ => hm, fun _ => update⟩, fun _ => ?_, fun e => absurd hm e, ?_, ?_⟩
  · rw [quiet, state]; exact h.quiet
  · rw [offer, state]; exact h.offer
  · rw [negotiation, state]; exact h.negotiation
  · rw [mode, ceiling]; exact ⟨(h.up hs).1, (h.up hs).2.1, run⟩
  · rw [hm]; exact fun e => nomatch e
  · rw [state]; exact h.enabled

theorem updating (hs : l.state = .up) : l.updateDue.isSome = true := h.update.mpr hs

theorem answer (hs : l.state = .up) (f : StatusFrame) (limit : Nat) : (l.answer f limit).Fits on :=
  h.staysUp hs hs rfl (h.updating hs) (Nat.zero_lt_succ 2)

theorem missing (hs : l.state = .up) (hr : l.missing.missingRun ≠ 3) : l.missing.Fits on := by
  have run := (h.up hs).2.2
  refine h.staysUp hs hs rfl (h.updating hs) ?_
  have counted : l.missing.missingRun = l.missingRun + 1 := rfl
  omega

end Link.Fits

/-! ## The table of links -/

/-- Every link fits its state and its station's enable. -/
def LinksSound (s : State) : Prop := ∀ n, (s.links.get n).Fits (s.settings.get n).linkEnable

theorem LinksSound.congr {s t : State} (h : LinksSound s) (links : t.links = s.links) (settings : t.settings = s.settings) :
    LinksSound t := by
  intro n
  rw [links, settings]
  exact h n

theorem LinksSound.withLink {s : State} (h : LinksSound s) (n : Station) {l : Link}
    (hl : l.Fits (s.settings.get n).linkEnable) : LinksSound (s.withLink n l) := by
  intro k
  rw [State.withLink_links, State.withLink_settings, Quad.get_set]
  split
  · next same =>
    rw [same]
    exact hl
  · exact h k

theorem LinksSound.claimStation {s : State} (h : LinksSound s) (n : Station) : LinksSound (claimStation n s) :=
  h.congr (sameBut_claimStation s n .links (by decide)) (sameBut_claimStation s n .settings (by decide))

theorem LinksSound.judgeMissing {s : State} (h : LinksSound s) {n : Station} (hs : (s.links.get n).state = .up) :
    LinksSound (judgeMissing n s) := by
  have on : (s.settings.get n).linkEnable = true := (h n).on_of_state (by simp [hs])
  unfold Machine.judgeMissing
  dsimp only
  split
  · refine LinksSound.claimStation (h.withLink n ?_) n
    rw [on]
    exact Link.Idle.lose _ _ _
  · next more => exact h.withLink n ((h n).missing hs more)

theorem LinksSound.statusInUp {s : State} (h : LinksSound s) {n : Station} (hs : (s.links.get n).state = .up)
    (f : StatusFrame) : LinksSound (statusInUp n f s) := by
  have answered := h.withLink n ((h n).answer hs f (s.settings.get n).mismatchLimit)
  unfold Machine.statusInUp
  dsimp only
  split
  · exact h
  · exact ite_keeps (ite_keeps answered (answered.claimStation n)) (h.judgeMissing hs)

theorem LinksSound.spoiledInUp {s : State} (h : LinksSound s) {n : Station} (hs : (s.links.get n).state = .up) :
    LinksSound (spoiledInUp n s) := by
  unfold Machine.spoiledInUp
  split
  · exact h
  · exact h.judgeMissing hs

theorem LinksSound.receiveDlk {s : State} (h : LinksSound s) (n : Station) (f : DlkFrame) :
    LinksSound (receiveDlk n f s) := by
  have counted : LinksSound (s.withLink n (s.links.get n).countCheckError) :=
    h.withLink n ((h n).stays rfl (fun e => ((h n).idle e).congr rfl) id)
  unfold Machine.receiveDlk
  dsimp only
  split
  case h_1 | h_2 | h_3 | h_4 => exact h
  case h_5 hs => exact counted.spoiledInUp (by simpa [Link.countCheckError] using hs)
  case h_6 hs => exact h.spoiledInUp hs
  case h_7 hs => exact h.statusInUp hs _
  case h_8 | h_9 | h_10 => exact counted
  case h_11 hs => exact h.withLink n ((h n).offerInOffer hs _)
  case h_12 hs => exact h.withLink n ((h n).statusInOffer hs _ _)
  case h_13 hs => exact h.withLink n ((h n).offerInAcknowledge hs _)
  case h_14 hs => exact h.withLink n ((h n).offerInConfirm hs _)
  case h_15 hs | h_16 hs => exact h.withLink n ((h n).backToOffer (by rw [hs]; rfl) none)

theorem LinksSound.sendFrame {s : State} (h : LinksSound s) {n : Station} (hs : (s.links.get n).state = .up) :
    LinksSound (sendFrame n s) :=
  h.withLink n ((h n).staysUp hs hs rfl rfl ((h n).up hs).2.2)

theorem LinksSound.updateExpiry {s : State} (h : LinksSound s) {n : Station} (hs : (s.links.get n).state = .up) :
    LinksSound (updateExpiry n s) := by
  unfold Machine.updateExpiry
  split
  · exact h.sendFrame hs
  · dsimp only
    split
    · next up => exact (h.judgeMissing hs).sendFrame up
    · exact h.judgeMissing hs

theorem LinksSound.reqLinkEnable {s : State} (h : LinksSound s) (body : List Byte) :
    LinksSound (reqLinkEnable body s).1 := by
  unfold Machine.reqLinkEnable
  split
  · exact h
  · next n v _ =>
    have enabled {l : Link} (hl : l.Fits v) :
        LinksSound ((s.withSettings n { s.settings.get n with linkEnable := v }).withLink n l) := by
      intro k
      simp only [State.withLink_links, State.withLink_settings, State.withSettings_links, State.withSettings_settings,
        Quad.get_set]
      split
      · exact hl
      · exact h k
    cases v with
    | true =>
      simp only [if_true]
      split
      · next off => exact enabled (((h n).idle (by simp [off])).toQuiet s.clock)
      · next on =>
        have stays : (s.links.get n).Fits true := by
          have fits := h n
          rwa [fits.on_of_state on] at fits
        have changed := enabled stays
        rwa [State.withLink, State.withSettings_links, Quad.set_get] at changed
    | false =>
      have off : LinksSound ((s.withSettings n { s.settings.get n with linkEnable := false }).withLink n
          (s.links.get n).leaveIfUp.toOff) := enabled (h n).leaveIfUp_idle.toOff
      exact ite_keeps (off.claimStation n) off

theorem LinksSound.reqLinkRestart {s : State} (h : LinksSound s) (body : List Byte) :
    LinksSound (reqLinkRestart body s).1 := by
  unfold Machine.reqLinkRestart
  split
  · exact h
  · next n _ =>
    split
    · exact h
    · next on =>
      have quiet : LinksSound (s.withLink n ((s.links.get n).leaveIfUp.toQuiet s.clock)) := by
        refine h.withLink n ?_
        rw [(h n).on_of_state on]
        exact (h n).leaveIfUp_idle.toQuiet s.clock
      exact ite_keeps (quiet.claimStation n) quiet

theorem LinksSound.reqStationSet {s : State} (h : LinksSound s) (body : List Byte) :
    LinksSound (reqStationSet body s).1 := by
  unfold Machine.reqStationSet
  split
  · exact h
  · next n f hb =>
    split
    · exact h
    · obtain ⟨t, _, _, rfl⟩ := stationSetBody_inv hb
      intro k
      simp only [State.withLink_links, State.withLink_settings, State.withUnit_settings, State.withUnit_links,
        State.withSettings_settings, State.withSettings_links, Quad.get_set]
      split
      · exact (h n).settingsChanged _ _
      · exact h k

theorem kept_links : Kept [.links, .settings] LinksSound where
  inner := by decide
  reads s t same h := h.congr (same .links (by decide)) (same .settings (by decide))
  reset s lines alerts _ n := by
    simp only [State.base, Quad.get_fill]
    refine ⟨?_, ?_, ?_, ?_, ?_, fun _ => ⟨rfl, rfl, rfl, rfl, rfl, rfl, rfl, rfl⟩, ?_, ?_⟩
    all_goals simp [Link.reset, Settings.reset, LinkState.settling]
  request k held body s hk h := by
    cases k with
    | linkEnable => exact h.reqLinkEnable body
    | linkRestart => exact h.reqLinkRestart body
    | linkStatus =>
      simp only [perform, reqLinkStatus]
      split
      · exact h
      · next n _ =>
        refine h.withLink n ((h n).stays rfl (fun e => ?_) id)
        have idle := (h n).idle e
        exact ⟨by simp [e], idle.ready, idle.fault, idle.mismatch, idle.force, idle.driveSpeed, idle.lastSent,
          idle.outstanding⟩
    | linkCounters =>
      simp only [perform, reqLinkCounters]
      split
      · exact h
      · next n _ => exact h.withLink n ((h n).stays rfl (fun e => ((h n).idle e).congr rfl) id)
    | stationSet => exact h.reqStationSet body
    | _ => cases hk
  event i s hi h := by
    cases i with
    | dlkFrameReceived n f => exact h.receiveDlk n f
    | quietTimerExpiry n =>
      unfold effect
      dsimp only
      split
      · next due => exact h.withLink n ((h n).quietEnd due.1 _ _)
      · exact h
    | offerTimerExpiry n => exact ite_keeps (h.withLink n ((h n).offerTick _ _)) h
    | negotiationTimerExpiry n =>
      unfold effect
      dsimp only
      split
      · next due =>
        refine h.withLink n ?_
        have on : (s.settings.get n).linkEnable = true := (h n).on_of_state (by
          intro off
          rw [off] at due
          cases due.1)
        rw [on]
        refine Link.Idle.toQuiet ?_ _
        exact ((h n).idle_of_settling due.1).congr rfl
      · exact h
    | updateTimerExpiry n =>
      unfold effect
      dsimp only
      split
      · next due => exact h.updateExpiry due.1
      · exact h
    | _ => cases hi
  settles s h := h.congr (sameBut_settle s .links (by decide)) (sameBut_settle s .settings (by decide))

/-- Settles O8. -/
theorem stepKeepsLinkTimed : Obligations.StepKeepsLinkTimed := by
  intro s t hs h
  exact (linkTimed_iff t).mpr (kept_links.step_keeps s t ((linkTimed_iff s).mp hs) h)

end Sys2Proof.Machine
end

section
/-! SUPPORT. The invariants of the calibration store and the settings (R44, R45, R50, R55), and of the capture units (R10, R11, R16, R17). -/

set_option Elab.async false

namespace Sys2Proof.Machine

/-! ## The store -/

/-- The constants of a record. -/
def CalRecord.constants (r : CalRecord) : CalConstants :=
  { circumference := r.circumference, mass := r.mass, lines := r.lines }

/-- A valid record has its constants in their ranges, and a locked one is valid. -/
structure CalRecord.Sound (r : CalRecord) : Prop where
  inRange : r.valid = true → r.constants.InRange
  locked : r.locked = true → r.valid = true

/-- Records, settings and the operation in flight; the records that were locked in `old` are as they were. -/
structure StoreKept (old : Quad CalRecord) (s : State) : Prop where
  records : ∀ n, (s.cal.records.get n).Sound
  settings : ∀ n, (s.settings.get n).InRange
  flight : ∀ o, s.cal.op = some o → o.due = o.acceptedAt + 40000 ∧ (s.cal.records.get o.station).locked = false
    ∧ (∀ k ∈ o.kind.carried, k.InRange) ∧ (o.kind = .lock → (s.cal.records.get o.station).valid = true)
  locked : ∀ n, (old.get n).locked = true → s.cal.records.get n = old.get n

theorem storeKept_iff (s : State) : StoreKept s.cal.records s ↔ StoreSound s := by
  constructor
  · rintro ⟨records, settings, flight, _⟩
    exact ⟨fun n _ => ⟨(records n).inRange, (records n).locked, settings n⟩,
      fun o ho => flight o (Option.mem_toList.mp ho)⟩
  · rintro ⟨records, flight⟩
    refine ⟨fun n => ?_, fun n => ?_, fun o ho => flight o (Option.mem_toList.mpr ho), fun _ _ => rfl⟩
    · exact ⟨(records n (mem_allFour n)).1, (records n (mem_allFour n)).2.1⟩
    · exact (records n (mem_allFour n)).2.2

namespace StoreKept

variable {old : Quad CalRecord} {s : State} (h : StoreKept old s)
include h

theorem congr {t : State} (cal : t.cal = s.cal) (settings : ∀ n, (t.settings.get n).InRange) : StoreKept old t :=
  ⟨cal ▸ h.records, settings, cal ▸ h.flight, cal ▸ h.locked⟩

theorem withSettings (n : Station) {t : Settings} (ht : t.InRange) : StoreKept old (s.withSettings n t) := by
  refine h.congr rfl fun k => ?_
  rw [State.withSettings_settings, Quad.get_set]
  split
  · exact ht
  · exact h.settings k

theorem started {k : CalOpKind} {n : Station} (unlocked : (s.cal.records.get n).locked = false)
    (carried : ∀ c ∈ k.carried, c.InRange) (valid : k = .lock → (s.cal.records.get n).valid = true) :
    StoreKept old (s.withCal (s.cal.start k n s.clock)) := by
  refine ⟨h.records, h.settings, fun o ho => ?_, h.locked⟩
  cases ho
  exact ⟨rfl, unlocked, carried, valid⟩

theorem finished {n : Station} (unlocked : (s.cal.records.get n).locked = false) {r : CalRecord} (hr : r.Sound)
    (wasLock : Bool) : StoreKept old (s.withCal (s.cal.finish r wasLock n s.clock)) := by
  refine ⟨fun k => ?_, h.settings, fun o ho => (nomatch ho), fun k hk => ?_⟩
  · show ((s.cal.records.set n r).get k).Sound
    rw [Quad.get_set]
    split
    · exact hr
    · exact h.records k
  · show (s.cal.records.set n r).get k = old.get k
    rw [Quad.get_set]
    split
    · next same =>
      rw [same] at hk
      rw [h.locked n hk, hk] at unlocked
      cases unlocked
    · exact h.locked k hk

theorem completeWrite {n : Station} {k : CalConstants} {o : CalOp} (ho : s.cal.op = some o) (station : o.station = n)
    (kind : o.kind = .write k) : StoreKept old (completeWrite n k s) := by
  obtain ⟨_, unlocked, carried, _⟩ := h.flight o ho
  rw [station] at unlocked
  have inRange : k.InRange := carried k (by rw [kind]; exact List.mem_singleton.mpr rfl)
  have rewritten : ((s.cal.records.get n).rewrite k).Sound := ⟨fun _ => inRange, fun _ => rfl⟩
  exact (h.finished unlocked rewritten false).congr rfl h.settings

theorem completeLock {n : Station} {o : CalOp} (ho : s.cal.op = some o) (station : o.station = n)
    (kind : o.kind = .lock) : StoreKept old (completeLock n s) := by
  obtain ⟨_, unlocked, _, valid⟩ := h.flight o ho
  rw [station] at unlocked valid
  have locked : ({ s.cal.records.get n with locked := true } : CalRecord).Sound :=
    ⟨(h.records n).inRange, fun _ => valid kind⟩
  exact h.finished unlocked locked true

theorem reqCalWrite (body : List Byte) : StoreKept old (reqCalWrite body s).1 := by
  unfold Machine.reqCalWrite
  split
  · exact h
  · next n k hb =>
    split
    · exact h
    · split
      · exact h
      · next unlocked =>
        split
        · exact h
        · exact h.started (Bool.not_eq_true _ ▸ unlocked)
            (fun c hc => List.mem_singleton.mp hc ▸ calWriteBody_inRange hb) nofun

theorem reqCalLock (body : List Byte) : StoreKept old (reqCalLock body s).1 := by
  unfold Machine.reqCalLock
  split
  · exact h
  · split
    · exact h
    · split
      · exact h
      · next unlocked =>
        split
        · next valid => exact h.started (Bool.not_eq_true _ ▸ unlocked) (fun c hc => nomatch hc) fun _ => valid
        · exact h

theorem reqLinkEnable (body : List Byte) : StoreKept old (reqLinkEnable body s).1 := by
  unfold Machine.reqLinkEnable
  split
  · exact h
  · next n v _ =>
    have enabled : StoreKept old (s.withSettings n { s.settings.get n with linkEnable := v }) :=
      h.withSettings n (h.settings n)
    split
    · exact ite_keeps (enabled.congr rfl enabled.settings) enabled
    · have moved := sameBut_moveLink (s.withSettings n { s.settings.get n with linkEnable := v }) n Link.toOff
      have settings : (moveLink n Link.toOff (s.withSettings n { s.settings.get n with linkEnable := v })).settings
          = (s.withSettings n { s.settings.get n with linkEnable := v }).settings := moved .settings (by decide)
      exact enabled.congr (moved .cal (by decide)) (settings ▸ enabled.settings)

theorem reqStationSet (body : List Byte) : StoreKept old (reqStationSet body s).1 := by
  unfold Machine.reqStationSet
  split
  · exact h
  · next n f hb =>
    split
    · exact h
    · obtain ⟨t, inRange, _, rfl⟩ := stationSetBody_inv hb
      have set : StoreKept old (s.withSettings n { t with linkEnable := (s.settings.get n).linkEnable }) :=
        h.withSettings n inRange
      exact set.congr rfl set.settings

end StoreKept

theorem kept_store (old : Quad CalRecord) : Kept [.cal, .settings] (StoreKept old) where
  inner := by decide
  reads s t same h := by
    have settings : t.settings = s.settings := same .settings (by decide)
    exact h.congr (same .cal (by decide)) (settings ▸ h.settings)
  reset s lines alerts h := by
    refine ⟨h.records, fun n => ?_, fun o ho => (nomatch ho), h.locked⟩
    rw [State.base, Quad.get_fill]
    decide
  request k held body s hk h := by
    cases k with
    | calWrite => exact h.reqCalWrite body
    | calLock => exact h.reqCalLock body
    | linkEnable => exact h.reqLinkEnable body
    | stationSet => exact h.reqStationSet body
    | _ => cases hk
  event i s hi h := by
    cases i with
    | calWriteCompletion =>
      unfold effect
      dsimp only
      split
      · next ho => exact ite_keeps (h.completeWrite ho rfl rfl) h
      all_goals exact h
    | calLockCompletion =>
      unfold effect
      dsimp only
      split
      · next ho => exact ite_keeps (h.completeLock ho rfl rfl) h
      all_goals exact h
    | _ => cases hi
  settles s h := by
    have settings : (settle s).settings = s.settings := sameBut_settle s .settings (by decide)
    exact h.congr (sameBut_settle s .cal (by decide)) (settings ▸ h.settings)

/-- Settles O11: the records locked before the step are part of the invariant. -/
theorem stepKeepsStore : Obligations.StepKeepsStore := by
  intro s t hs h
  have kept := (kept_store s.cal.records).step_keeps s t ((storeKept_iff s).mpr hs) h
  exact ⟨(storeKept_iff t).mp ⟨kept.records, kept.settings, kept.flight, fun _ _ => rfl⟩, kept.locked⟩

/-! ## One capture unit -/

/-- What the fields of a capture unit must be, by its record's validity and its count divisor. -/
structure EncoderUnit.Sound (valid : Bool) (divisor : Nat) (u : EncoderUnit) : Prop where
  remainder : valid = true → u.remainder < divisor
  run : u.validRun ≤ 1000
  bad : u.transitionBad = true ↔ u.validRun < 1000
  crawl : u.crawl = true → u.speed = 0 ∧ u.windowStart = none
  window : u.windowStart.isSome = true → u.lastCounted.isSome = true
  overspeed : u.speed = 0 → u.overspeed = false
  armed : u.indexArmed = true → u.lastIndex.isSome = true

namespace EncoderUnit.Sound

variable {valid : Bool} {divisor : Nat} {u : EncoderUnit} (h : u.Sound valid divisor)
include h

/-- New levels of the lines. -/
theorem lines (a b : Bool) : ({ u with lineA := a, lineB := b } : EncoderUnit).Sound valid divisor :=
  ⟨h.remainder, h.run, h.bad, h.crawl, h.window, h.overspeed, h.armed⟩

theorem illegal : u.illegal.Sound valid divisor :=
  ⟨h.remainder, Nat.zero_le _, ⟨fun _ => Nat.zero_lt_succ 999, fun _ => rfl⟩, h.crawl, h.window, h.overspeed, h.armed⟩

/-- A counted edge with a new travel and remainder (R10, R11). -/
theorem counted (up : Bool) (fine : Nat) (travel : Int) (remainder : Nat) (hr : valid = true → remainder < divisor) :
    ({ u.countEdge up fine with travel := travel, remainder := remainder } : EncoderUnit).Sound valid divisor := by
  have full : Config.validRunFull = 1000 := rfl
  have run := h.run
  have bad := h.bad
  have stepped : (stepRun u.transitionBad u.validRun).2 ≤ 1000
      ∧ ((stepRun u.transitionBad u.validRun).1 = true ↔ (stepRun u.transitionBad u.validRun).2 < 1000) := by
    unfold stepRun
    rw [full]
    split
    · split
      · next short => exact ⟨by dsimp only; omega, ⟨fun _ => short, fun _ => rfl⟩⟩
      · exact ⟨Nat.le_refl _, by simp⟩
    · next good =>
      refine ⟨run, ?_⟩
      have ran : ¬ u.validRun < 1000 := mt bad.mpr good
      simp [ran]
  exact ⟨hr, stepped.1, stepped.2, nofun, fun _ => rfl, h.overspeed, h.armed⟩

theorem indexEvent (check known : Bool) (d tolerance : Nat) :
    (u.indexEvent check known d tolerance).Sound valid divisor := by
  have marked (bad : Bool) (armed : Bool) (errors : Nat) : ({ u with
      prevIndex := u.lastIndex, lastIndex := some u.count, indexBad := bad, indexArmed := armed,
      indexErrors := errors } : EncoderUnit).Sound valid divisor :=
    ⟨h.remainder, h.run, h.bad, h.crawl, h.window, h.overspeed, fun _ => rfl⟩
  unfold EncoderUnit.indexEvent
  dsimp only
  split
  · split
    · split
      · exact ite_keeps (marked _ _ _) (marked _ _ _)
      · exact marked _ _ _
    · exact marked _ _ _
  · exact marked _ _ _

/-- The overspeed condition is formed from the estimate (R17). -/
theorem formed {v : EncoderUnit} (same : (v.remainder, v.validRun, v.transitionBad, v.indexArmed, v.lastIndex)
      = (u.remainder, u.validRun, u.transitionBad, u.indexArmed, u.lastIndex))
    (crawl : v.crawl = true → v.speed = 0 ∧ v.windowStart = none)
    (window : v.windowStart.isSome = true → v.lastCounted.isSome = true) (limit : Nat) (due : CellTime) :
    ({ v with overspeed := decide (limit < v.speed.natAbs), estimateDue := due } : EncoderUnit).Sound valid divisor := by
  simp only [Prod.mk.injEq] at same
  obtain ⟨remainder, run, bad, armed, index⟩ := same
  refine ⟨?_, ?_, ?_, crawl, window, fun still => ?_, ?_⟩
  · rw [remainder]; exact h.remainder
  · rw [run]; exact h.run
  · rw [run, bad]; exact h.bad
  · have zero : v.speed = 0 := still
    simp [zero]
  · rw [armed, index]; exact h.armed

theorem estimated (circumference d : Nat) (known : Bool) (now : CellTime) (limit : Nat) (due : CellTime) :
    ({ u.estimate circumference d known now with
        overspeed := decide (limit < (u.estimate circumference d known now).speed.natAbs),
        estimateDue := due } : EncoderUnit).Sound valid divisor := by
  have crawls := h.formed (v := u.toCrawl) rfl (fun _ => ⟨rfl, rfl⟩) (fun w => nomatch w) limit due
  have stays := h.formed (v := u) rfl h.crawl h.window limit due
  unfold EncoderUnit.estimate
  split
  · split
    · exact stays
    · exact crawls
  · next w hw =>
    have moving : ¬ u.crawl = true := fun c => by
      rw [(h.crawl c).2] at hw
      cases hw
    split
    · split
      · next e he _ =>
        exact h.formed (v := { u with speed := speedEstimate circumference d known w e, windowStart := some e }) rfl
          (fun c => absurd c moving) (fun _ => by simp [he]) limit due
      · split
        · exact crawls
        · exact stays
    · split
      · exact crawls
      · exact stays

/-- A unit takes the three effects of R18, its divisor being positive where its record is valid. -/
theorem reconfigure {known : Bool} {d : Nat} (hd : known = true → 0 < d) : u.reconfigure.Sound known d :=
  ⟨hd, h.run, h.bad, fun c => ⟨(h.crawl c).1, rfl⟩, fun w => (nomatch w), h.overspeed, fun a => (nomatch a)⟩

end EncoderUnit.Sound

/-! ## The table of units -/

/-- Every capture unit is sound against its record and its settings. -/
def UnitsSound (s : State) : Prop :=
  ∀ n, (s.units.get n).Sound (s.cal.records.get n).valid (s.divisor n)

theorem unitSound_iff (s : State) : UnitSound s ↔ UnitsSound s := by
  constructor
  · intro h n
    obtain ⟨remainder, run, bad, crawl, window, overspeed, armed⟩ := h n (mem_allFour n)
    exact ⟨remainder, run, bad, crawl, window, overspeed, armed⟩
  · intro h n _
    exact ⟨(h n).remainder, (h n).run, (h n).bad, (h n).crawl, (h n).window, (h n).overspeed, (h n).armed⟩

theorem UnitsSound.congr {s t : State} (h : UnitsSound s) (units : t.units = s.units)
    (records : ∀ n, (t.cal.records.get n).valid = (s.cal.records.get n).valid)
    (divisor : ∀ n, t.divisor n = s.divisor n) : UnitsSound t := by
  intro n
  rw [units, records, divisor]
  exact h n

theorem UnitsSound.withUnit {s : State} (h : UnitsSound s) (n : Station) {u : EncoderUnit}
    (hu : u.Sound (s.cal.records.get n).valid (s.divisor n)) : UnitsSound (s.withUnit n u) := by
  intro k
  show ((s.units.set n u).get k).Sound (s.cal.records.get k).valid (s.divisor k)
  rw [Quad.get_set]
  split
  · next same =>
    rw [same]
    exact hu
  · exact h k

/-- The divisor of a valid record is positive (R44, R55). -/
theorem divisor_pos {r : CalRecord} {t : Settings} (hr : r.Sound) (ht : t.InRange) (valid : r.valid = true) :
    0 < r.lines * t.decode := by
  obtain ⟨_, _, _, _, lines, _⟩ := hr.inRange valid
  have decode : 0 < t.decode := by
    obtain ⟨factor, _⟩ := ht
    omega
  have positive : 0 < r.lines := Nat.lt_of_lt_of_le (by decide) lines
  exact Nat.mul_pos positive decode

theorem fmod_lt (sum : Int) {d : Nat} (hd : 0 < d) : (Int.fmod sum d).toNat < d := by
  have below := Int.fmod_lt_of_pos sum (Int.natCast_pos.mpr hd)
  omega

theorem UnitsSound.countEdge {old : Quad CalRecord} {s : State} (h : UnitsSound s) (store : StoreKept old s)
    (n : Station) (up : Bool) (fine : Nat) : UnitsSound (countEdge n up fine s) := by
  have counted (travel : Int) (r : Nat) (hr : (s.cal.records.get n).valid = true → r < s.divisor n) :=
    h.withUnit n ((h n).counted up fine travel r hr)
  unfold Machine.countEdge
  dsimp only
  split
  · next valid =>
    have positive : 0 < s.divisor n := divisor_pos (store.records n) (store.settings n) valid
    exact ite_keeps (counted _ _ fun _ => fmod_lt _ positive) (counted _ _ fun _ => fmod_lt _ positive)
  · exact counted _ _ (h n).remainder

theorem UnitsSound.takeSample {old : Quad CalRecord} {s : State} (h : UnitsSound s) (store : StoreKept old s)
    (n : Station) (a b : Bool) (fine : Nat) : UnitsSound (takeSample n a b fine s) := by
  have sampled : UnitsSound (s.withUnit n { s.units.get n with lineA := a, lineB := b }) :=
    h.withUnit n ((h n).lines a b)
  unfold Machine.takeSample
  dsimp only
  split
  · exact h
  · refine ite_keeps (sampled.withUnit n (sampled n).illegal) (ite_keeps ?_ sampled)
    exact sampled.countEdge (store.congr (s := s) rfl store.settings) n _ _

theorem UnitsSound.completeWrite {old : Quad CalRecord} {s : State} (h : UnitsSound s) (store : StoreKept old s)
    {n : Station} {k : CalConstants} {o : CalOp} (ho : s.cal.op = some o) (station : o.station = n)
    (kind : o.kind = .write k) : UnitsSound (completeWrite n k s) := by
  have after := store.completeWrite ho station kind
  intro m
  show ((s.units.set n (s.units.get n).reconfigure).get m).Sound _ _
  rw [Quad.get_set]
  split
  · next same =>
    rw [same]
    exact (h n).reconfigure fun valid => divisor_pos (after.records n) (after.settings n) valid
  · next other =>
    have record : (Machine.completeWrite n k s).cal.records.get m = s.cal.records.get m :=
      Quad.get_set_ne _ _ _ _ other
    have divisor : (Machine.completeWrite n k s).divisor m = s.divisor m := by
      rw [State.divisor, record]
      rfl
    rw [record, divisor]
    exact h m

theorem UnitsSound.reqStationSet {old : Quad CalRecord} {s : State} (h : UnitsSound s) (store : StoreKept old s)
    (body : List Byte) : UnitsSound (reqStationSet body s).1 := by
  have after := store.reqStationSet body
  unfold Machine.reqStationSet at after ⊢
  split at after
  · exact h
  · next n f _ =>
    split at after
    · next taken => rwa [if_pos taken]
    · next untaken =>
      rw [if_neg untaken]
      intro m
      show ((s.units.set n (s.units.get n).reconfigure).get m).Sound (s.cal.records.get m).valid
        ((s.cal.records.get m).lines * ((s.settings.set n (f (s.settings.get n))).get m).decode)
      by_cases same : m = n
      · have ranged : (f (s.settings.get n)).InRange := by simpa using after.settings n
        rw [same, Quad.get_set_self, Quad.get_set_self]
        exact (h n).reconfigure fun valid => divisor_pos (store.records n) ranged valid
      · rw [Quad.get_set_ne _ _ _ _ same, Quad.get_set_ne _ _ _ _ same]
        exact h m

theorem UnitsSound.of_sameBut {bs : List Block} {s t : State} (h : UnitsSound s) (same : SameBut bs s t)
    (hm : meets bs [.units, .cal, .settings] = false) : UnitsSound t := by
  have others := meets_eq_false hm
  have units : t.units = s.units := same .units (others _ (by decide))
  have cal : t.cal = s.cal := same .cal (others _ (by decide))
  have settings : t.settings = s.settings := same .settings (others _ (by decide))
  exact h.congr units (fun n => by rw [cal]) (fun n => by rw [State.divisor, cal, settings]; rfl)

theorem UnitsSound.reqLinkEnable {s : State} (h : UnitsSound s) (body : List Byte) :
    UnitsSound (reqLinkEnable body s).1 := by
  unfold Machine.reqLinkEnable
  split
  · exact h
  · next n v _ =>
    have enabled : UnitsSound (s.withSettings n { s.settings.get n with linkEnable := v }) := by
      refine h.congr rfl (fun _ => rfl) fun k => ?_
      show _ * ((s.settings.set n _).get k).decode = _ * _
      rw [Quad.get_set]
      split
      · next same =>
          rw [same]
          rfl
      · rfl
    split
    · exact ite_keeps (enabled.of_sameBut (sameBut_withLink _ n _ (bs := [.links])) rfl) enabled
    · exact enabled.of_sameBut (sameBut_moveLink _ n _) rfl

/-- A unit changes in its counters alone. -/
theorem UnitsSound.reqEncoderCounters {s : State} (h : UnitsSound s) (body : List Byte) :
    UnitsSound (reqEncoderCounters body s).1 := by
  unfold Machine.reqEncoderCounters
  split
  · exact h
  · next n _ =>
    have unit := h n
    exact h.withUnit n ⟨unit.remainder, unit.run, unit.bad, unit.crawl, unit.window, unit.overspeed, unit.armed⟩

/-- The store's own requests and the completion of a lock leave every record's validity and divisor. -/
theorem UnitsSound.withCal {s : State} (h : UnitsSound s) {c : CalStore}
    (valid : ∀ n, (c.records.get n).valid = (s.cal.records.get n).valid)
    (lines : ∀ n, (c.records.get n).lines = (s.cal.records.get n).lines) : UnitsSound (s.withCal c) :=
  h.congr rfl valid fun n => by
    show (c.records.get n).lines * _ = _
    rw [lines]
    rfl

theorem UnitsSound.request {s : State} (h : UnitsSound s) {old : Quad CalRecord} (store : StoreKept old s) (k : ReqKind)
    (held : Bool) (body : List Byte) (hk : meets (requestBlocks k) [.units, .cal, .settings] = true) :
    UnitsSound (perform k held body s).1 := by
  cases k with
  | encoderCounters => exact h.reqEncoderCounters body
  | linkEnable => exact h.reqLinkEnable body
  | calWrite =>
    simp only [perform, reqCalWrite]
    repeat' split
    all_goals exact h
  | calLock =>
    simp only [perform, reqCalLock]
    repeat' split
    all_goals exact h
  | stationSet => exact h.reqStationSet store body
  | _ => cases hk

theorem UnitsSound.event {s : State} (h : UnitsSound s) {old : Quad CalRecord} (store : StoreKept old s) (i : Instr)
    (hi : meets (eventBlocks i) [.units, .cal, .settings] = true) : UnitsSound (effect i s) := by
  cases i with
  | encoderTransition n a b frac => exact h.takeSample store n a b _
  | indexEvent n => exact h.withUnit n ((h n).indexEvent _ _ _ _)
  | estimationIntervalExpiry n => exact ite_keeps (h.withUnit n ((h n).estimated _ _ _ _ _ _)) h
  | calWriteCompletion =>
    unfold effect
    dsimp only
    split
    · next ho => exact ite_keeps (h.completeWrite store ho rfl rfl) h
    all_goals exact h
  | calLockCompletion =>
    have locked (n : Station) : UnitsSound (completeLock n s) := by
      have record (k : Station) : ((s.cal.records.set n { s.cal.records.get n with locked := true }).get k).valid
            = (s.cal.records.get k).valid
          ∧ ((s.cal.records.set n { s.cal.records.get n with locked := true }).get k).lines
            = (s.cal.records.get k).lines := by
        rw [Quad.get_set]
        split
        · next same => rw [same]; exact ⟨rfl, rfl⟩
        · exact ⟨rfl, rfl⟩
      exact h.withCal (fun k => (record k).1) fun k => (record k).2
    unfold effect
    dsimp only
    split
    · exact ite_keeps (locked _) h
    all_goals exact h
  | _ => cases hi

/-- The units, in company of the store. -/
theorem kept_units (old : Quad CalRecord) :
    Kept ([.cal, .settings] ++ [.units, .cal, .settings]) (fun s => StoreKept old s ∧ UnitsSound s) := by
  refine (kept_store old).given (by decide) (fun s t same h => ?_) (fun s lines alerts store _ n => ?_)
    (fun k held body s hk store h => h.request store k held body hk)
    (fun i s hi store h => h.event store i hi) fun s _ h => h.of_sameBut (sameBut_settle s) rfl
  · have cal : t.cal = s.cal := same .cal (by decide)
    have settings : t.settings = s.settings := same .settings (by decide)
    exact h.congr (same .units (by decide)) (fun n => by rw [cal]) fun n => by rw [State.divisor, cal, settings]; rfl
  · have positive (valid : (s.cal.records.get n).valid = true) : 0 < (s.cal.records.get n).lines * Settings.reset.decode :=
      divisor_pos (store.records n) (by decide) valid
    simp only [State.base, State.divisor, Quad.get_ofFn, Quad.get_fill]
    exact ⟨positive, Nat.le_refl _, ⟨nofun, fun short => absurd short (Nat.lt_irrefl 1000)⟩,
      fun _ => ⟨rfl, rfl⟩, nofun, fun _ => rfl, nofun⟩

/-- Settles O12. -/
theorem stepKeepsUnitSound : Obligations.StepKeepsUnitSound := by
  intro s t store units h
  exact (unitSound_iff t).mpr ((kept_units s.cal.records).step_keeps s t
    ⟨(storeKept_iff s).mpr store, (unitSound_iff s).mp units⟩ h).2

end Sys2Proof.Machine
end

section
/-! SUPPORT. The invariant of the schedules: the record by its state, and no pending segment of an UNDEFINED group (R115, R117 to R122, R125, R127). -/

set_option Elab.async false

namespace Sys2Proof.Machine

/-! ## One schedule -/

/-- What the fields of a schedule must be in each of its states. -/
structure Schedule.Sound (x : Schedule) : Prop where
  idle : x.state = .idle → x.active = none ∧ x.activatedAt = none ∧ x.endsAt = none ∧ x.applied = none ∧ x.blend = none
  active : x.state ≠ .idle → x.active.isSome = true ∧ x.activatedAt.isSome = true ∧ x.applied.isSome = true
  blending : x.blend.isSome = true → x.state = .active
  step : ∀ b ∈ x.blend.toList, b.elapsed < b.ramp

theorem Schedule.Sound.reset (n : Nat) : ({ Schedule.reset with late := n } : Schedule).Sound := by
  constructor <;> simp [Schedule.reset]

namespace Schedule.Sound

variable {x : Schedule} (h : x.Sound)

theorem taken (x : Schedule) (y : Segment) (now : CellTime) (late : Bool) : (x.taken y now late).Sound := by
  refine ⟨nofun, fun _ => ⟨rfl, rfl, ?_⟩, fun _ => rfl, ?_⟩
  · unfold Schedule.taken
    dsimp only
    split <;> rfl
  · unfold Schedule.taken
    dsimp only
    split
    · exact fun b hb => nomatch hb
    · next ramps =>
      have long : 0 < y.ramp := Nat.pos_of_ne_zero fun zero => ramps (.inr zero)
      cases x.applied with
      | none => exact fun b hb => nomatch hb
      | some k => simpa using long

include h

theorem blendStep : x.blendStep.Sound := by
  unfold Schedule.blendStep
  split
  · exact h
  · next b hb =>
    have active := h.blending (by rw [hb]; rfl)
    have held := h.active (by rw [active]; decide)
    dsimp only
    split
    · exact ⟨fun e => absurd e (by rw [active]; decide), fun _ => ⟨held.1, held.2.1, rfl⟩,
      nofun, fun c hc => nomatch hc⟩
    · next more =>
      refine ⟨fun e => absurd e (by rw [active]; decide), fun _ => ⟨held.1, held.2.1, rfl⟩, fun _ => active, ?_⟩
      simpa using more

theorem dry (hs : x.state = .active) : ({ x with state := .dry, blend := none } : Schedule).Sound :=
  ⟨nofun, fun _ => h.active (by rw [hs]; decide), nofun, fun c hc => nomatch hc⟩

theorem withLate (n : Nat) : ({ x with late := n } : Schedule).Sound := ⟨h.idle, h.active, h.blending, h.step⟩

end Schedule.Sound

theorem blendStep_state (x : Schedule) : x.blendStep.state = x.state := by
  unfold Schedule.blendStep
  split
  · rfl
  · dsimp only
    split <;> rfl

/-! ## Schedules, pending segments and groups -/

/-- Every schedule is sound, and an UNDEFINED group has neither an activated nor a pending segment. -/
structure SchedulesSound (s : State) : Prop where
  sound : ∀ g, (s.scheds.get g).Sound
  undefined : ∀ g, (s.groups.get g).state = .undefined → (s.scheds.get g).state = .idle
  resolved : ∀ x ∈ s.road.resolved, (s.groups.get x.seg.group).state ≠ .undefined
  unresolved : ∀ y ∈ s.road.unresolved, (s.groups.get y.group).state ≠ .undefined

theorem scheduleSound_iff (s : State) : ScheduleSound s ↔ SchedulesSound s := by
  constructor
  · rintro ⟨schedules, resolved, unresolved⟩
    refine ⟨fun g => ?_, fun g => (schedules g (mem_allFour g)).2.2.2.2, resolved, unresolved⟩
    obtain ⟨idle, active, blending, step, _⟩ := schedules g (mem_allFour g)
    exact ⟨idle, active, blending, step⟩
  · rintro ⟨sound, undefined, resolved, unresolved⟩
    exact ⟨fun g _ => ⟨(sound g).idle, (sound g).active, (sound g).blending, (sound g).step, undefined g⟩, resolved,
      unresolved⟩

namespace SchedulesSound

variable {s t : State} (h : SchedulesSound s)
include h

/-- The groups change, none of them becoming UNDEFINED. -/
theorem regroup (scheds : t.scheds = s.scheds) (road : t.road = s.road)
    (kept : ∀ g, (t.groups.get g).state = .undefined → (s.groups.get g).state = .undefined) : SchedulesSound t := by
  refine ⟨scheds ▸ h.sound, fun g hg => scheds ▸ h.undefined g (kept g hg), fun x hx => ?_, fun y hy => ?_⟩
  · exact mt (kept _) (h.resolved x (road ▸ hx))
  · exact mt (kept _) (h.unresolved y (road ▸ hy))

/-- One group takes a record that is not UNDEFINED, or was so before. -/
theorem regroup_one {g : GroupId} {y : Group} (scheds : t.scheds = s.scheds) (road : t.road = s.road)
    (groups : t.groups = s.groups.set g y) (hy : y.state = .undefined → (s.groups.get g).state = .undefined) :
    SchedulesSound t := by
  refine h.regroup scheds road fun k hk => ?_
  rw [groups, Quad.get_set] at hk
  split at hk
  · next same => exact same ▸ hy hk
  · exact hk

/-- Segments leave and none comes. -/
theorem fewer {q : List Resolved} {u : List Segment} (hq : q.Sublist s.road.resolved) (hu : u.Sublist s.road.unresolved)
    (groups : t.groups = s.groups) (scheds : t.scheds = s.scheds)
    (road : t.road = { s.road with resolved := q, unresolved := u }) : SchedulesSound t := by
  refine ⟨scheds ▸ h.sound, fun g hg => scheds ▸ h.undefined g (groups ▸ hg), fun x hx => ?_, fun y hy => ?_⟩
  · rw [road] at hx
    rw [groups]
    exact h.resolved x (hq.subset hx)
  · rw [road] at hy
    rw [groups]
    exact h.unresolved y (hu.subset hy)

/-- One schedule takes a sound record. -/
theorem withSched (g : GroupId) {x : Schedule} (hx : x.Sound)
    (undefined : (s.groups.get g).state = .undefined → x.state = .idle) : SchedulesSound (s.withSched g x) := by
  have get (k : GroupId) : (s.withSched g x).scheds.get k = if k = g then x else s.scheds.get k := by
    rw [State.withSched_scheds, Quad.get_set]
  refine ⟨fun k => ?_, fun k hk => ?_, h.resolved, h.unresolved⟩
  · rw [get]
    split
    · exact hx
    · exact h.sound k
  · rw [get]
    split
    · next same => exact undefined (same ▸ hk)
    · exact h.undefined k hk

/-- A head of the resolved queue activates. -/
theorem activate {x : Resolved} {q : List Resolved} (hr : s.road.resolved = x :: q) (now : CellTime) (late : Bool) :
    SchedulesSound { s with
      road := { s.road with resolved := q },
      scheds := s.scheds.set x.seg.group ((s.scheds.get x.seg.group).taken x.seg now late) } := by
  have defined := h.resolved x (by rw [hr]; exact List.mem_cons_self)
  have taken := h.withSched x.seg.group (Schedule.Sound.taken (s.scheds.get x.seg.group) x.seg now late)
    fun e => absurd e defined
  exact taken.fewer (by rw [State.withSched_road, hr]; exact List.sublist_cons_self x q) (List.Sublist.refl _) rfl rfl rfl

theorem runActivations : SchedulesSound (runActivations s) := by
  rw [runActivations_eq]
  generalize hq : s.road.resolved = q
  induction q generalizing s with
  | nil => exact h.fewer (List.nil_sublist _) (List.Sublist.refl _) rfl rfl (by simp [stillPending])
  | cons x q ih =>
    by_cases reached : x.due ≤ s.clock
    · have next := ih (h.activate hq s.clock (decide (x.due < s.clock))) rfl
      simpa [stillPending, activatedBy, reached] using next
    · have pending : stillPending s.clock (x :: q) = s.road.resolved := by simp [stillPending, reached, hq]
      have scheds : activatedBy s.clock (x :: q) s.scheds = s.scheds := by simp [activatedBy, reached]
      rw [pending, scheds]
      exact h

/-- A segment of a defined group is resolved. -/
theorem place_resolved {x : Resolved} (defined : (s.groups.get x.seg.group).state ≠ .undefined) (n : Nat)
    {u : List Segment} (hu : u.Sublist s.road.unresolved) : SchedulesSound (s.withRoad { s.road with
      resolved := insertResolved x s.road.resolved, unresolved := u, nextArrival := n }) := by
  refine ⟨h.sound, h.undefined, fun y hy => ?_, fun y hy => h.unresolved y (hu.subset hy)⟩
  rcases mem_insertResolved.mp hy with rfl | hy
  · exact defined
  · exact h.resolved y hy

theorem place_unresolved {x : Segment} (defined : (s.groups.get x.group).state ≠ .undefined) (n : Nat) :
    SchedulesSound (s.withRoad { s.road with unresolved := s.road.unresolved ++ [x], nextArrival := n }) := by
  refine ⟨h.sound, h.undefined, h.resolved, fun y hy => ?_⟩
  rcases List.mem_append.mp hy with hy | hy
  · exact h.unresolved y hy
  · exact List.mem_singleton.mp hy ▸ defined

theorem placeSegment (x : Segment) (defined : (s.groups.get x.group).state ≠ .undefined) :
    SchedulesSound (placeSegment x s).1 := by
  have placed (due : CellTime) := h.place_resolved (x := { seg := x, due := due }) defined (s.road.nextArrival + 1)
    (List.Sublist.refl _)
  unfold Machine.placeSegment
  dsimp only
  repeat' split
  · exact (placed _).runActivations
  · exact placed _
  · exact (placed _).runActivations
  · exact placed _
  · exact h.place_unresolved defined _

theorem resolveAll (mark : CellTime) : SchedulesSound (s.withRoad (resolveAll mark s.road)) := by
  unfold Machine.resolveAll
  generalize hu : s.road.unresolved = u
  induction u generalizing s with
  | nil => exact h.fewer (List.Sublist.refl _) (List.nil_sublist _) rfl rfl rfl
  | cons x u ih =>
    have defined := h.unresolved x (by rw [hu]; exact List.mem_cons_self)
    exact ih (h.place_resolved (x := { seg := x, due := mark + x.start }) defined s.road.nextArrival
      (by rw [hu]; exact List.sublist_cons_self x u)) rfl

theorem markEdge : SchedulesSound (markEdge s) := by
  have marked (m : MarkCapture) : SchedulesSound (s.withMark m) := ⟨h.sound, h.undefined, h.resolved, h.unresolved⟩
  unfold Machine.markEdge
  dsimp only
  split
  · exact ite_keeps ((marked _).resolveAll s.clock).runActivations ((marked _).resolveAll s.clock)
  · exact marked _

theorem removePending (keep : Segment → Bool) : SchedulesSound (removePending keep s).1 :=
  h.fewer List.filter_sublist List.filter_sublist rfl rfl rfl

/-- DISBAND leaves its group's schedule IDLE and none of its segments pending (R127). -/
theorem disbandGroup (g : GroupId) : SchedulesSound (disbandGroup g s) := by
  have window (u : State) := sameBut_disbandWindow u g
  have groups := (disbandGroup_groups g s).1
  have road : (Machine.disbandGroup g s).road = { s.road with
      resolved := s.road.resolved.filter fun x => x.seg.group != g,
      unresolved := s.road.unresolved.filter fun x => x.group != g } := window _ .road (by decide)
  have scheds : (Machine.disbandGroup g s).scheds
      = s.scheds.set g { Schedule.reset with late := (s.scheds.get g).late } := window _ .scheds (by decide)
  refine ⟨fun k => ?_, fun k hk => ?_, fun x hx => ?_, fun y hy => ?_⟩
  · rw [scheds, Quad.get_set]
    split
    · exact .reset _
    · exact h.sound k
  · rw [scheds, Quad.get_set]
    split
    · rfl
    · next other =>
      rw [groups, Quad.get_set_ne _ _ _ _ other] at hk
      exact h.undefined k hk
  · rw [road] at hx
    obtain ⟨pending, other⟩ := List.mem_filter.mp hx
    rw [groups, Quad.get_set_ne _ _ _ _ (bne_iff_ne.mp other)]
    exact h.resolved x pending
  · rw [road] at hy
    obtain ⟨pending, other⟩ := List.mem_filter.mp hy
    rw [groups, Quad.get_set_ne _ _ _ _ (bne_iff_ne.mp other)]
    exact h.unresolved y pending

theorem clearLate : SchedulesSound { s with scheds := clearLate s.scheds } := by
  have get (g : GroupId) : (Machine.clearLate s.scheds).get g = { s.scheds.get g with late := 0 } := by
    simp [Machine.clearLate]
  refine ⟨fun g => ?_, fun g hg => ?_, h.resolved, h.unresolved⟩
  · show ((Machine.clearLate s.scheds).get g).Sound
    rw [get]
    exact (h.sound g).withLate 0
  · show ((Machine.clearLate s.scheds).get g).state = .idle
    rw [get]
    exact h.undefined g hg

end SchedulesSound

/-! ## In a step -/

theorem claimKept_schedules : ClaimKept [.groups, .road, .scheds] SchedulesSound where
  inner := by decide
  reads s t same h := by
    have groups : t.groups = s.groups := same .groups (by decide)
    exact h.regroup (same .scheds (by decide)) (same .road (by decide)) fun g hg => groups ▸ hg
  held g s hd h := h.regroup_one (sameBut_claimHeld s g .scheds (by decide)) (sameBut_claimHeld s g .road (by decide))
    (claimHeld_groups g s hd).1 nofun
  tripped g s hr h := h.regroup_one (sameBut_tripGroup s g .scheds (by decide))
    (sameBut_tripGroup s g .road (by decide)) (tripGroup_groups g s hr).1 nofun
  released g s _ h := h.regroup_one (sameBut_releaseGroup s g .scheds (by decide))
    (sameBut_releaseGroup s g .road (by decide)) (releaseGroup_groups g s).1 nofun
  freed g s _ h := h.regroup_one (sameBut_engageFailed s g .scheds (by decide))
    (sameBut_engageFailed s g .road (by decide)) (engageFailed_groups g s).1 nofun
  driven g d s hd _ h := by
    obtain ⟨y, judged, after⟩ := drivingPeriod_judged s g d hd
    have groups : (drivingPeriod g d s).groups = s.groups.set g (drivenGroup s g d y) := congrArg Prod.fst after
    have same (b : Block) (hb : b ∉ Block.rings :: claimBlocks) : b.Same s (drivingPeriod g d s) :=
      sameBut_drivingPeriod s g d b hb
    refine h.regroup_one (same .scheds (by decide)) (same .road (by decide)) groups fun e => ?_
    have driving := judged.driving
    rw [show y.state = .undefined from e] at driving
    cases driving
  idled g d s hs _ h := by
    rw [heldPeriod_eq s g d hs]
    exact h.regroup_one rfl rfl rfl id

theorem kept_schedules : Kept [.groups, .road, .scheds] SchedulesSound := by
  refine claimKept_schedules.kept (fun s _ _ _ => ?_) (fun k held body s own hk h => ?_) fun i s own hi h => ?_
  · refine ⟨fun g => ?_, fun g _ => ?_, fun x hx => (nomatch hx), fun y hy => (nomatch hy)⟩
    · rw [State.base, Quad.get_fill]
      exact .reset 0
    · rw [State.base, Quad.get_fill]
      rfl
  · cases k with
    | groupDefine =>
      simp only [perform, reqGroupDefine]
      repeat' split
      · exact h
      · exact h
      · exact h
      · exact h.regroup_one rfl rfl rfl nofun
    | groupTune =>
      simp only [perform, reqGroupTune]
      repeat' split
      · exact h
      · exact h
      · exact h
      · exact h.regroup_one rfl rfl rfl id
    | engage =>
      have started (g : GroupId) (d : GroupDef) : SchedulesSound (startGroup g d s) :=
        h.regroup_one (sameBut_startGroup s g d .scheds (by decide)) (sameBut_startGroup s g d .road (by decide))
          (congrArg Prod.fst (startGroup_table g d s)) nofun
      simp only [perform, reqEngage]
      repeat' split
      · exact h
      · exact h
      · exact started _ _
      · exact h
      · exact started _ _
      · exact h
    | disband =>
      simp only [perform, reqDisband]
      repeat' split
      · exact h
      · exact h.disbandGroup _
      · exact h
    | segmentQueue =>
      simp only [perform, reqSegmentQueue]
      split
      · exact h
      · split
        · exact h
        · next defined => exact ite_keeps (Inv := fun p : State × Reply => SchedulesSound p.1) h (h.placeSegment _ defined)
    | segmentFlush =>
      simp only [perform, reqSegmentFlush]
      split
      · exact h
      · next g _ => exact h.removePending fun x => x.group != g
    | segmentCancel =>
      simp only [perform, reqSegmentCancel]
      split
      · exact h
      · next v _ => exact h.removePending fun x => x.tag != v
    | scheduleRead => exact h.clearLate
    | excursionFetch | ringFreeze | ringUnfreeze => cases hk
    | _ => cases own
  · cases i with
    | markInEdge => exact h.markEdge
    | segmentActivation => exact h.runActivations
    | blendStep g =>
      refine ite_keeps (h.withSched g (h.sound g).blendStep fun e => ?_) h
      rw [blendStep_state]
      exact h.undefined g e
    | durationEnd g =>
      unfold effect
      dsimp only
      split
      · next due =>
        rw [Schedule.endDue, Bool.and_eq_true, beq_iff_eq] at due
        have window (u : State) := sameBut_windowCause u g none (some .dry) (bs := [.windows]) (by decide)
        have dry := h.withSched g ((h.sound g).dry due.1) fun e => by
          rw [h.undefined g e] at due
          cases due.1
        exact dry.fewer (List.Sublist.refl _) (List.Sublist.refl _) (window _ .groups (by decide))
          (window _ .scheds (by decide)) (window _ .road (by decide))
      · exact h
    | _ => cases own

/-- Settles O10. -/
theorem stepKeepsScheduleSound : Obligations.StepKeepsScheduleSound := by
  intro s t hs h
  exact (scheduleSound_iff t).mpr (kept_schedules.step_keeps s t ((scheduleSound_iff s).mp hs) h)

end Sys2Proof.Machine
end

section
/-! SUPPORT. The invariant of the driving groups: every member keeps its link, its permit and its record, and only such a member has a posted demand (R47, R64, R70, R76, R79, R134). -/

set_option Elab.async false

namespace Sys2Proof.Machine

/-! ## Posted demands (R64) -/

/-- Only a member of a driving group has a posted demand other than 0. -/
def PostedDriving (s : State) : Prop :=
  ∀ n, s.posted.get n ≠ 0 → ∃ g, (s.groups.get g).state.driving = true ∧ (s.groups.get g).hasMember n = true

theorem postedWhileDriving_iff (s : State) : PostedWhileDriving s ↔ PostedDriving s := by
  simp [PostedWhileDriving, PostedDriving, mem_allFour]

theorem zeroedFor_get (ms : List Member) (p : Quad Int) (n : Station) :
    (zeroedFor ms p).get n = if ms.any (fun m => m.station == n) then 0 else p.get n := by
  rw [zeroedFor, Quad.get_ofFn]

theorem postedTo_get_other {ms : List Member} {n : Station} (h : ms.any (fun m => m.station == n) = false)
    (ds : List Int) (p : Quad Int) : (postedTo ms ds p).get n = p.get n := by
  induction ms generalizing ds p with
  | nil => rfl
  | cons m ms ih =>
    rw [List.any_cons, Bool.or_eq_false_iff] at h
    cases ds with
    | nil => rfl
    | cons d ds =>
      have other : n ≠ m.station := fun e => by simp [e] at h
      have step : postedTo (m :: ms) (d :: ds) p = postedTo ms ds (p.set m.station d) := rfl
      rw [step, ih h.2, Quad.get_set_ne _ _ _ _ other]

/-- 0 is posted for the members a group had, whatever record it takes. -/
theorem PostedDriving.zeroed {s t : State} (h : PostedDriving s) {g : GroupId} {y : Group} {ms : List Member}
    (ht : t.table = (s.groups.set g y, zeroedFor ms s.posted))
    (members : ∀ n, (s.groups.get g).state.driving = true → (s.groups.get g).hasMember n = true →
      ms.any (fun m => m.station == n) = true) : PostedDriving t := by
  have groups : t.groups = s.groups.set g y := congrArg Prod.fst ht
  have posted : t.posted = zeroedFor ms s.posted := congrArg Prod.snd ht
  intro n hn
  rw [posted, zeroedFor_get] at hn
  split at hn
  · exact absurd rfl hn
  · next outside =>
    obtain ⟨k, driving, member⟩ := h n hn
    have other : k ≠ g := fun e => outside (members n (e ▸ driving) (e ▸ member))
    exact ⟨k, by rw [groups, Quad.get_set_ne _ _ _ _ other]; exact ⟨driving, member⟩⟩

/-- A group keeps its members, driving where it drove, and demands are posted for its members alone. -/
theorem PostedDriving.posted {s t : State} (h : PostedDriving s) {g : GroupId} {y : Group} {p : Quad Int}
    (ht : t.table = (s.groups.set g y, p)) (members : y.members = (s.groups.get g).members)
    (driving : (s.groups.get g).state.driving = true → y.state.driving = true)
    (others : ∀ n, p.get n ≠ s.posted.get n → y.state.driving = true ∧ y.hasMember n = true) : PostedDriving t := by
  have groups : t.groups = s.groups.set g y := congrArg Prod.fst ht
  have posted : t.posted = p := congrArg Prod.snd ht
  intro n hn
  rw [posted] at hn
  by_cases same : p.get n = s.posted.get n
  · obtain ⟨k, drove, member⟩ := h n (same ▸ hn)
    refine ⟨k, ?_⟩
    rw [groups, Quad.get_set]
    split
    · next here =>
      rw [here] at drove member
      exact ⟨driving drove, by rwa [Group.hasMember, members]⟩
    · exact ⟨drove, member⟩
  · refine ⟨g, ?_⟩
    rw [groups, Quad.get_set_self]
    exact others n same

theorem moveKept_posted : MoveKept PostedDriving where
  reads s t table h n hn := by
    have groups : t.groups = s.groups := congrArg Prod.fst table
    have posted : t.posted = s.posted := congrArg Prod.snd table
    rw [groups]
    exact h n (posted ▸ hn)
  moved s t g m h := by
    generalize hu : t.table = u at m
    cases m with
    | held | tripped | released | freed | disbanded => exact h.zeroed hu fun _ _ member => member
    | defined d hs =>
      refine h.zeroed hu fun _ drives => ?_
      rcases hs with e | e <;> rw [e] at drives <;> cases drives
    | tuned d x _ hx => exact h.posted hu (by simp [Group.members, hx]) id fun n hn => absurd rfl hn
    | started d => exact h.posted (hu.trans (startGroup_table g d s)) rfl (fun _ => rfl) fun n hn => absurd rfl hn
    | driven d y hd hx j =>
      have defn := j.defn
      have members : y.members = d.members := by rw [Group.members, defn, hx]
      refine h.posted hu (by simp [drivenGroup, Group.members, defn]) (fun _ => j.driving) fun n hn => ⟨j.driving, ?_⟩
      show (y.members.any fun m => m.station == n) = true
      rw [members, ← Bool.not_eq_false]
      exact fun outside => hn (postedTo_get_other outside _ _)
    | idled d hs =>
      rw [heldPeriod_eq s g d hs] at hu
      exact h.zeroed hu fun _ _ member => member
  reset s t table _ n hn := by
    have posted : t.posted = Quad.fill 0 := congrArg Prod.snd table
    rw [posted, Quad.get_fill] at hn
    exact absurd rfl hn

/-! ## Groups that stop driving -/

/-- A group drives after only if it drove before, by the same definition. -/
def Subdued (s t : State) : Prop :=
  ∀ g, (t.groups.get g).state.driving = true →
    (s.groups.get g).state.driving = true ∧ (t.groups.get g).defn = (s.groups.get g).defn

namespace Subdued

theorem of_groups {s t : State} (h : t.groups = s.groups) : Subdued s t := fun g hd => ⟨h ▸ hd, by rw [h]⟩

theorem trans {s t u : State} (hst : Subdued s t) (htu : Subdued t u) : Subdued s u := by
  intro g hd
  obtain ⟨drove, defn⟩ := htu g hd
  exact ⟨(hst g drove).1, defn.trans (hst g drove).2⟩

theorem set {s t : State} {g : GroupId} {y : Group} (groups : t.groups = s.groups.set g y)
    (hy : y.state.driving = true → (s.groups.get g).state.driving = true ∧ y.defn = (s.groups.get g).defn) :
    Subdued s t := by
  intro k hd
  rw [groups, Quad.get_set] at hd ⊢
  split at hd
  · next same => rw [if_pos same, same]; exact hy hd
  · next other => rw [if_neg other]; exact ⟨hd, rfl⟩

theorem claimHeld (g : GroupId) (s : State) : Subdued s (claimHeld g s) := by
  cases hd : (s.groups.get g).state.driving with
  | false => exact of_groups (by rw [claimHeld_idle g s hd])
  | true => exact set (claimHeld_groups g s hd).1 nofun

theorem claimStation (n : Station) (s : State) : Subdued s (claimStation n s) := by
  unfold Machine.claimStation
  split
  · exact claimHeld _ s
  · exact of_groups rfl

theorem releaseGroup (g : GroupId) (s : State) : Subdued s (releaseGroup g s) := set (releaseGroup_groups g s).1 nofun

theorem engageFailed (g : GroupId) (s : State) : Subdued s (engageFailed g s) := set (engageFailed_groups g s).1 nofun

theorem runPeriod (g : GroupId) (s : State) : Subdued s (runPeriod g s) := by
  have driving (d : GroupDef) (hd : (s.groups.get g).state.driving = true) : Subdued s (drivingPeriod g d s) := by
    obtain ⟨y, judged, after⟩ := drivingPeriod_judged s g d hd
    exact set (y := drivenGroup s g d y) (congrArg Prod.fst after) fun _ => ⟨hd, judged.defn⟩
  unfold Machine.runPeriod
  split
  case h_1 d st _ | h_2 d st _ | h_3 d st _ => exact driving d (by rw [st]; rfl)
  case h_4 d st _ =>
    rw [heldPeriod_eq s g d st]
    exact set rfl fun e => by
      rw [show (s.groups.get g).state = _ from st] at e
      cases e
  case h_5 => exact of_groups rfl

end Subdued

theorem claimHeld_not_driving (g : GroupId) (s : State) : ((claimHeld g s).groups.get g).state.driving = false := by
  cases drove : (s.groups.get g).state.driving with
  | false => rw [claimHeld_idle g s drove, drove]
  | true =>
    rw [(claimHeld_groups g s drove).1, Quad.get_set_self]
    rfl

/-- After a claim for a station no driving group has it as a member (R76). -/
theorem claimStation_cleared {s : State} (apart : MembersApart s) (n g : Fin 4)
    (hd : ((claimStation n s).groups.get g).state.driving = true) : (s.groups.get g).hasMember n = false := by
  rw [← Bool.not_eq_true]
  intro member
  rw [claimStation_member apart member, claimHeld_not_driving] at hd
  cases hd

/-- After claims on the named groups of a list none of them drives. -/
theorem claims_cleared (named : GroupId → Bool) (gs : List GroupId) (s : State) :
    Subdued s (gs.foldl (fun t g => if named g then claimHeld g t else t) s)
      ∧ ∀ g ∈ gs, ((gs.foldl (fun t g => if named g then claimHeld g t else t) s).groups.get g).state.driving = true →
        named g = false := by
  induction gs generalizing s with
  | nil => exact ⟨Subdued.of_groups rfl, fun g hg => nomatch hg⟩
  | cons k gs ih =>
    have first : Subdued s (if named k then claimHeld k s else s) :=
      ite_keeps (Inv := Subdued s) (Subdued.claimHeld k s) (Subdued.of_groups rfl)
    obtain ⟨rest, cleared⟩ := ih (if named k then claimHeld k s else s)
    refine ⟨first.trans rest, fun g hg hd => ?_⟩
    rcases List.mem_cons.mp hg with rfl | hg
    · rw [← Bool.not_eq_true]
      intro claimed
      have drove := (rest g hd).1
      rw [if_pos claimed, claimHeld_not_driving] at drove
      cases drove
    · exact cleared g hg hd

/-- After the claims of removed permits no driving group has a member among them (R134). -/
theorem claimRemoved_cleared (removed : BitVec 4) (s : State) :
    Subdued s (claimRemoved removed s) ∧ ∀ g, ((claimRemoved removed s).groups.get g).state.driving = true →
      (s.groups.get g).members.any (fun m => removed.getLsbD m.station.val) = false := by
  rw [claimRemoved_eq]
  obtain ⟨subdued, cleared⟩ :=
    claims_cleared (fun g => (s.groups.get g).members.any fun m => removed.getLsbD m.station.val) allFour s
  exact ⟨subdued, fun g => cleared g (mem_allFour g)⟩

/-! ## Members that are ready (R70, R79) -/

/-- What a station must have as a member of a driving group of a period. -/
structure MemberReady (s : State) (period : Nat) (n : Station) : Prop where
  up : (s.links.get n).state = .up
  ready : (s.links.get n).ready = true
  fast : ∀ u ∈ (s.links.get n).mode.toList, u.cls.period ≤ period
  permitted : s.permit.mask.getLsbD n.val = true
  valid : (s.cal.records.get n).valid = true
  still : s.cal.writing n = false

/-- Every member of a driving group is ready. -/
def MembersReady (s : State) : Prop :=
  ∀ g d m, (s.groups.get g).state.driving = true → (s.groups.get g).defn = some d → m ∈ d.members →
    MemberReady s d.period m.station

theorem drivingReady_iff (s : State) : DrivingReady s ↔ MembersReady s := by
  constructor
  · intro h g d m hd hx hm
    obtain ⟨up, ready, fast, permitted, valid, still⟩ := h g (mem_allFour g) hd d (Option.mem_toList.mpr hx) m hm
    exact ⟨up, ready, fast, permitted, valid, still⟩
  · intro h g _ hd d hx m hm
    obtain ⟨up, ready, fast, permitted, valid, still⟩ := h g d m hd (Option.mem_toList.mp hx) hm
    exact ⟨up, ready, fast, permitted, valid, still⟩

theorem hasMember_of_mem {x : Group} {d : GroupDef} {m : Member} (hx : x.defn = some d) (hm : m ∈ d.members) :
    x.hasMember m.station = true := by
  rw [Group.hasMember, Group.members, hx]
  exact List.any_eq_true.mpr ⟨m, hm, beq_self_eq_true _⟩

theorem MemberReady.congr {s t : State} {p : Nat} {n : Station} (h : MemberReady s p n) (links : t.links = s.links)
    (permit : t.permit = s.permit) (cal : t.cal = s.cal) : MemberReady t p n :=
  ⟨links ▸ h.up, links ▸ h.ready, links ▸ h.fast, permit ▸ h.permitted, cal ▸ h.valid, cal ▸ h.still⟩

theorem ite_some_eq_none {α : Type} {c : Prop} [Decidable c] {x : α} {r : Option α} :
    (if c then some x else r) = none ↔ ¬ c ∧ r = none := by
  split
  · next yes => exact ⟨fun e => (nomatch e), fun no => absurd yes no.1⟩
  · next no => exact ⟨fun e => ⟨no, e⟩, And.right⟩

/-- Where no cause of R70 applies every member is ready. -/
theorem engageRefusal_none {d : GroupDef} {s : State} (h : engageRefusal d s = none) (m : Member)
    (hm : m ∈ d.members) : MemberReady s d.period m.station := by
  have all {p : Member → Bool} (none : ¬ d.members.any (fun m => !p m) = true) : p m = true := by
    simpa only [Bool.not_eq_true', Bool.not_eq_false] using
      List.any_eq_false.mp (Bool.eq_false_iff.mpr none) m hm
  simp only [engageRefusal, ite_some_eq_none] at h
  obtain ⟨_, carries, slow, permitted, usable, _⟩ := h
  have carries := all (p := fun m => (s.links.get m.station).carries) carries
  have usable := all (p := fun m => s.cal.usable m.station) usable
  have permitted := all (p := fun m => s.permitted m.station) permitted
  have fast := List.any_eq_false.mp (Bool.not_eq_true _ ▸ slow) m hm
  simp only [Link.carries, CalStore.usable, Bool.and_eq_true, beq_iff_eq, Bool.not_eq_true'] at carries usable
  refine ⟨carries.1, carries.2, fun u hu => ?_, permitted, usable.1, usable.2⟩
  have mode := Option.mem_toList.mp hu
  simpa [Link.tooSlow, Link.updatePeriod, Option.mem_def.mp mode] using fast

namespace MembersReady

variable {s t : State} (h : MembersReady s)
include h

/-- Groups stop driving or none does, and the members of those that drive on stay ready. -/
theorem subdued (sub : Subdued s t) (keeps : ∀ g d m, (t.groups.get g).state.driving = true →
      (s.groups.get g).defn = some d → m ∈ d.members → MemberReady s d.period m.station →
      MemberReady t d.period m.station) : MembersReady t := by
  intro g d m hd hx hm
  obtain ⟨drove, defn⟩ := sub g hd
  have before := defn.symm.trans hx
  exact keeps g d m hd before hm (h g d m drove before hm)

/-- Groups alone change, and none of them starts. -/
theorem subdued_same {bs : List Block} (sub : Subdued s t) (same : SameBut bs s t)
    (hm : meets bs [.links, .permit, .cal] = false) : MembersReady t := by
  have others := meets_eq_false hm
  exact h.subdued sub fun _ _ _ _ _ _ ready => ready.congr (same .links (others _ (by decide)))
    (same .permit (others _ (by decide))) (same .cal (others _ (by decide)))

/-- A link that was UP and ready stays so in its mode. -/
theorem withLink (n : Station) {l : Link} (hl : (s.links.get n).state = .up → (s.links.get n).ready = true →
    l.state = .up ∧ l.ready = true ∧ l.mode = (s.links.get n).mode) : MembersReady (s.withLink n l) := by
  refine h.subdued (t := s.withLink n l) (Subdued.of_groups rfl) fun g d m _ _ _ ready => ?_
  have get : (s.withLink n l).links.get m.station = if m.station = n then l else s.links.get m.station := by
    rw [State.withLink_links, Quad.get_set]
  by_cases here : m.station = n
  · rw [if_pos here] at get
    obtain ⟨up, able, mode⟩ := hl (here ▸ ready.up) (here ▸ ready.ready)
    refine ⟨by rw [get]; exact up, by rw [get]; exact able, ?_, ready.permitted, ready.valid, ready.still⟩
    rw [get, mode, ← here]
    exact ready.fast
  · rw [if_neg here] at get
    exact ⟨get ▸ ready.up, get ▸ ready.ready, get ▸ ready.fast, ready.permitted, ready.valid, ready.still⟩

/-- A link changes as it may, and its station is claimed (R76). -/
theorem withLink_claimed (apart : MembersApart s) (n : Station) (l : Link) :
    MembersReady (claimStation n (s.withLink n l)) := by
  have same : SameBut claimBlocks (s.withLink n l) (claimStation n (s.withLink n l)) := sameBut_claimStation _ n
  have links : (claimStation n (s.withLink n l)).links = s.links.set n l := same .links (by decide)
  have permit : (claimStation n (s.withLink n l)).permit = s.permit := same .permit (by decide)
  have cal : (claimStation n (s.withLink n l)).cal = s.cal := same .cal (by decide)
  refine h.subdued ((Subdued.of_groups (s := s) rfl).trans (Subdued.claimStation n (s.withLink n l)))
    fun g d m hd hx hm ready => ?_
  have outside : (s.groups.get g).hasMember n = false :=
    claimStation_cleared (s := s.withLink n l) apart n g hd
  have other : m.station ≠ n := fun e => by
    rw [← e, hasMember_of_mem hx hm] at outside
    cases outside
  have link : (s.links.set n l).get m.station = s.links.get m.station := Quad.get_set_ne _ _ _ _ other
  refine ⟨?_, ?_, ?_, permit ▸ ready.permitted, cal ▸ ready.valid, cal ▸ ready.still⟩
  · rw [links, link]; exact ready.up
  · rw [links, link]; exact ready.ready
  · rw [links, link]; exact ready.fast

/-- The permit mask changes, and the groups of the stations that lose their permit are claimed (R134, R136). -/
theorem permits_claimed {u : State} (removed : BitVec 4) (groups : u.groups = s.groups) (links : u.links = s.links)
    (cal : u.cal = s.cal) (mask : ∀ n : Station, s.permit.mask.getLsbD n.val = true → removed.getLsbD n.val = false →
      u.permit.mask.getLsbD n.val = true) : MembersReady (claimRemoved removed u) := by
  have same : SameBut claimBlocks u (claimRemoved removed u) := sameBut_claimRemoved u removed
  have links' : (claimRemoved removed u).links = s.links := links ▸ same .links (by decide)
  have permit : (claimRemoved removed u).permit = u.permit := same .permit (by decide)
  have cal' : (claimRemoved removed u).cal = s.cal := cal ▸ same .cal (by decide)
  obtain ⟨sub, cleared⟩ := claimRemoved_cleared removed u
  refine h.subdued ((Subdued.of_groups groups).trans sub) fun g d m hd hx hm ready => ?_
  have kept : removed.getLsbD m.station.val = false := by
    have none := cleared g hd
    rw [groups, Group.members, hx, List.any_eq_false] at none
    simpa using none m hm
  exact ⟨links' ▸ ready.up, links' ▸ ready.ready, links' ▸ ready.fast,
    by rw [permit]; exact mask m.station ready.permitted kept, cal' ▸ ready.valid, cal' ▸ ready.still⟩

/-! ## Links -/

theorem moveLink (apart : MembersApart s) (n : Station) (f : Link → Link) : MembersReady (moveLink n f s) := by
  unfold Machine.moveLink
  dsimp only
  split
  · exact h.withLink_claimed apart n _
  · next down => exact h.withLink n fun up => absurd up down

theorem judgeMissing (apart : MembersApart s) (n : Station) : MembersReady (judgeMissing n s) := by
  unfold Machine.judgeMissing
  exact ite_keeps (h.withLink_claimed apart n _) (h.withLink n fun up ready => ⟨up, ready, rfl⟩)

theorem statusInUp (apart : MembersApart s) (n : Station) (f : StatusFrame) : MembersReady (statusInUp n f s) := by
  unfold Machine.statusInUp
  dsimp only
  split
  · exact h
  · split
    · split
      · next able => exact h.withLink n fun up _ => ⟨up, able, rfl⟩
      · exact h.withLink_claimed apart n _
    · exact h.judgeMissing apart n

theorem spoiledInUp (apart : MembersApart s) (n : Station) : MembersReady (spoiledInUp n s) := by
  unfold Machine.spoiledInUp
  split
  · exact h
  · exact h.judgeMissing apart n

theorem receiveDlk (apart : MembersApart s) (n : Station) (f : DlkFrame) : MembersReady (receiveDlk n f s) := by
  have counted : MembersReady (s.withLink n (s.links.get n).countCheckError) :=
    h.withLink n fun up ready => ⟨up, ready, rfl⟩
  have settling {l : Link} (down : (s.links.get n).state ≠ .up) : MembersReady (s.withLink n l) :=
    h.withLink n fun up => absurd up down
  unfold Machine.receiveDlk
  dsimp only
  split
  case h_1 | h_2 | h_3 | h_4 => exact h
  case h_5 => exact counted.spoiledInUp apart n
  case h_6 => exact h.spoiledInUp apart n
  case h_7 => exact h.statusInUp apart n _
  case h_8 | h_9 | h_10 => exact counted
  case h_11 hs | h_12 hs | h_13 hs | h_14 hs | h_15 hs | h_16 hs => exact settling (by rw [hs]; decide)

theorem sendFrame (n : Station) : MembersReady (sendFrame n s) :=
  h.withLink n fun up ready => ⟨up, ready, rfl⟩

theorem updateExpiry (apart : MembersApart s) (n : Station) : MembersReady (updateExpiry n s) := by
  unfold Machine.updateExpiry
  split
  · exact h.sendFrame n
  · exact ite_keeps ((h.judgeMissing apart n).sendFrame n) (h.judgeMissing apart n)

theorem reqLinkEnable (apart : MembersApart s) (body : List Byte) : MembersReady (reqLinkEnable body s).1 := by
  unfold Machine.reqLinkEnable
  split
  · exact h
  · next n v _ =>
    have enabled : MembersReady (s.withSettings n { s.settings.get n with linkEnable := v }) :=
      h.subdued_same (Subdued.of_groups rfl) (sameBut_withSettings s n _ (bs := [.settings])) rfl
    split
    · dsimp only
      split
      · next off => exact enabled.withLink n fun up => absurd (off.symm.trans up) (by decide)
      · exact enabled
    · exact enabled.moveLink apart n _

theorem reqLinkRestart (apart : MembersApart s) (body : List Byte) : MembersReady (reqLinkRestart body s).1 := by
  unfold Machine.reqLinkRestart
  split
  · exact h
  · split
    · exact h
    · exact h.moveLink apart _ _

/-- STATION SET is refused for a member of a group, and changes no link that is UP (R56, R57). -/
theorem reqStationSet (body : List Byte) : MembersReady (reqStationSet body s).1 := by
  unfold Machine.reqStationSet
  split
  · exact h
  · next n f _ =>
    split
    · exact h
    · have set : MembersReady ((s.withSettings n (f (s.settings.get n))).withUnit n (s.units.get n).reconfigure) :=
        h.subdued_same (Subdued.of_groups rfl)
          ((sameBut_withSettings s n _ (bs := [.settings, .units])).trans (sameBut_withUnit _ n _)) rfl
      refine set.withLink n fun up ready => ?_
      have up : (s.links.get n).state = .up := up
      have stays : (s.links.get n).settingsChanged (s.settings.get n) (f (s.settings.get n)) = s.links.get n := by
        simp [Link.settingsChanged, up]
      rw [stays]
      exact ⟨up, ready, rfl⟩

/-! ## The store -/

/-- The store changes, but for no member of a driving group. -/
theorem withCal {c : CalStore} (hc : ∀ g, (s.groups.get g).state.driving = true → ∀ n,
      (s.groups.get g).hasMember n = true → (s.cal.records.get n).valid = true → s.cal.writing n = false →
      (c.records.get n).valid = true ∧ c.writing n = false) : MembersReady (s.withCal c) := by
  refine h.subdued (t := s.withCal c) (Subdued.of_groups rfl) fun g d m hd hx hm ready => ?_
  obtain ⟨valid, still⟩ := hc g hd m.station (hasMember_of_mem hx hm) ready.valid ready.still
  exact ⟨ready.up, ready.ready, ready.fast, ready.permitted, valid, still⟩

/-- CAL WRITE is refused for a member of a running group (R46, R47). -/
theorem reqCalWrite (apart : MembersApart s) (body : List Byte) : MembersReady (reqCalWrite body s).1 := by
  unfold Machine.reqCalWrite
  split
  · exact h
  · next n k _ =>
    split
    · exact h
    · split
      · exact h
      · split
        · exact h
        · next outside =>
          refine h.withCal fun g hd m member valid _ => ⟨valid, ?_⟩
          have other : n ≠ m := by
            rintro rfl
            refine outside ?_
            rw [apart.inRunningGroup_eq, memberOf_iff]
            exact ⟨g, running_of_driving hd, member⟩
          simp [CalStore.writing, CalStore.start, other]

theorem reqCalLock (body : List Byte) : MembersReady (reqCalLock body s).1 := by
  unfold Machine.reqCalLock
  split
  · exact h
  · split
    · exact h
    · split
      · exact h
      · split
        · exact h.withCal fun _ _ m _ valid _ => ⟨valid, by simp [CalStore.writing, CalStore.start]⟩
        · exact h

/-- A completed operation leaves its record valid where it was, and no write in flight. -/
theorem finished (n : Station) (r : CalRecord) (wasLock : Bool)
    (hr : (s.cal.records.get n).valid = true → r.valid = true) :
    MembersReady (s.withCal (s.cal.finish r wasLock n s.clock)) := by
  refine h.withCal fun _ _ m _ valid _ => ⟨?_, rfl⟩
  show ((s.cal.records.set n r).get m).valid = true
  rw [Quad.get_set]
  split
  · next same => exact hr (same ▸ valid)
  · exact valid

/-! ## Groups -/

/-- A group without members that drive takes a record that does not drive, or keeps its members and its period. -/
theorem withGroup {g : GroupId} {y : Group} (groups : t.groups = s.groups.set g y)
    (links : t.links = s.links) (permit : t.permit = s.permit) (cal : t.cal = s.cal)
    (hy : y.state.driving = true → ∀ d m, y.defn = some d → m ∈ d.members → MemberReady s d.period m.station) :
    MembersReady t := by
  intro k d m hd hx hm
  rw [groups, Quad.get_set] at hd hx
  split at hd
  · next same =>
    rw [if_pos same] at hx
    exact (hy hd d m hx hm).congr links permit cal
  · next other =>
    rw [if_neg other] at hx
    exact (h k d m hd hx hm).congr links permit cal

theorem reqGroupDefine (body : List Byte) : MembersReady (reqGroupDefine body s).1 := by
  unfold Machine.reqGroupDefine
  split
  · exact h
  · dsimp only
    repeat' split
    · exact h
    · exact h
    · exact h.withGroup rfl rfl rfl rfl nofun

theorem reqGroupTune (body : List Byte) : MembersReady (reqGroupTune body s).1 := by
  unfold Machine.reqGroupTune
  split
  · exact h
  · next g x _ =>
    dsimp only
    split
    · exact h
    · exact h
    · next d hx _ =>
      refine h.withGroup rfl rfl rfl rfl fun hd e m he hm => ?_
      cases he
      exact h g d m hd hx hm

/-- An accepted ENGAGE found every member ready (R70). -/
theorem startGroup {g : GroupId} {d : GroupDef} (hx : (s.groups.get g).defn = some d)
    (accepted : engageRefusal d s = none) : MembersReady (startGroup g d s) := by
  have same := sameBut_startGroup s g d
  refine h.withGroup (congrArg Prod.fst (startGroup_table g d s)) (same .links (by decide)) (same .permit (by decide))
    (same .cal (by decide)) fun _ e m he hm => ?_
  have here : e = d := Option.some.inj (he.symm.trans hx)
  rw [here] at hm ⊢
  exact engageRefusal_none accepted m hm

theorem reqEngage (body : List Byte) : MembersReady (reqEngage body s).1 := by
  unfold Machine.reqEngage
  split
  · exact h
  · next g _ =>
    dsimp only
    split
    case h_1 d _ hx | h_2 d _ hx =>
      cases hr : engageRefusal d s with
      | some _ => exact h
      | none => exact h.startGroup hx hr
    case h_3 => exact h

theorem reqRelease (body : List Byte) : MembersReady (reqRelease body s).1 := by
  have released (g : GroupId) : MembersReady (releaseGroup g s) :=
    h.subdued_same (Subdued.releaseGroup g s) (sameBut_releaseGroup s g) rfl
  unfold Machine.reqRelease
  split
  case h_1 => exact h
  case h_2 g _ =>
    cases (s.groups.get g).state with
    | engaging | locked | slipping | held => exact released g
    | tripped => exact ite_keeps (Inv := fun p : State × Reply => MembersReady p.1) h (released g)
    | free | undefined => exact h

theorem reqDisband (body : List Byte) : MembersReady (reqDisband body s).1 := by
  unfold Machine.reqDisband
  split
  · exact h
  · next g _ =>
    split
    · exact h.subdued_same (Subdued.set (disbandGroup_groups g s).1 nofun) (sameBut_disbandGroup s g) rfl
    · exact h

/-! ## Permits -/

theorem reqPermitGrant (body : List Byte) : MembersReady (reqPermitGrant body s).1 := by
  unfold Machine.reqPermitGrant
  split
  · exact h
  · next m _ =>
    split
    · exact h
    · split
      · exact h
      · refine h.permits_claimed (s.permit.mask &&& ~~~m) rfl rfl rfl fun n was kept => ?_
        have mask : (s.permit.grant m s.clock).mask = m := by
          unfold Permit.grant
          split
          · rfl
          · split <;> rfl
        show (s.permit.grant m s.clock).mask.getLsbD n.val = true
        rw [mask]
        simpa [was, n.isLt] using kept

theorem permitExpired : MembersReady (permitExpired s) := by
  refine h.permits_claimed s.permit.mask rfl rfl rfl fun n was kept => ?_
  rw [was] at kept
  cases kept

/-- A change of the permit's timer or time. -/
theorem withPermit {p : Permit} (mask : p.mask = s.permit.mask) : MembersReady (s.withPermit p) :=
  h.subdued (t := s.withPermit p) (Subdued.of_groups rfl) fun _ _ _ _ _ _ ready =>
    ⟨ready.up, ready.ready, ready.fast, by
      show p.mask.getLsbD _ = true
      rw [mask]
      exact ready.permitted, ready.valid, ready.still⟩

/-! ## The end of an event -/

theorem settle : MembersReady (settle s) := by
  have handed : MembersReady (handConditions s) :=
    h.subdued_same (Subdued.of_groups rfl) (sameBut_handConditions s (bs := [.filters])) rfl
  cases fresh : (handConditions s).mon.tripSet && !(handConditions s).mon.tripOut with
  | true =>
    rw [settle_trip s fresh]
    intro g d m hd
    have still := (quiescent_tripEvent (handConditions s)).2.2 g
    have running : ((tripEvent (handConditions s)).groups.get g).state.running = true := running_of_driving hd
    rw [still] at running
    cases running
  | false =>
    rw [settle_noTrip s fresh]
    exact h.subdued (Subdued.of_groups rfl) fun _ _ _ _ _ _ ready => ready.congr rfl rfl rfl

end MembersReady

/-- The blocks that the readiness of members reads. -/
def readyBlocks : List Block := [.groups, .links, .permit, .cal]

theorem membersReady_request {s : State} (h : MembersReady s) (apart : MembersApart s) (k : ReqKind) (held : Bool)
    (body : List Byte) (hk : meets (requestBlocks k) readyBlocks = true) : MembersReady (perform k held body s).1 := by
  cases k with
  | linkEnable => exact h.reqLinkEnable apart body
  | linkRestart => exact h.reqLinkRestart apart body
  | linkStatus | linkCounters =>
    simp only [perform, reqLinkStatus, reqLinkCounters]
    split
    · exact h
    · exact h.withLink _ fun up ready => ⟨up, ready, rfl⟩
  | calWrite => exact h.reqCalWrite apart body
  | calLock => exact h.reqCalLock body
  | stationSet => exact h.reqStationSet body
  | groupDefine => exact h.reqGroupDefine body
  | groupTune => exact h.reqGroupTune body
  | engage => exact h.reqEngage body
  | release => exact h.reqRelease body
  | disband => exact h.reqDisband body
  | permitTime =>
    simp only [perform, reqPermitTime]
    split
    · exact h
    · exact h.withPermit rfl
  | permitGrant => exact h.reqPermitGrant body
  | permitRenew =>
    simp only [perform, reqPermitRenew]
    repeat' split
    · exact h
    · exact h.withPermit rfl
    · exact h
  | _ => cases hk

theorem membersReady_event {s : State} (h : MembersReady s) (apart : MembersApart s) (links : LinksSound s) (i : Instr)
    (hi : meets (eventBlocks i) readyBlocks = true) : MembersReady (effect i s) := by
  cases i with
  | dlkFrameReceived n f => exact h.receiveDlk apart n f
  | quietTimerExpiry n =>
    unfold effect
    dsimp only
    split
    · next due => exact h.withLink n fun up => absurd (due.1.symm.trans up) (by decide)
    · exact h
  | offerTimerExpiry n =>
    unfold effect
    dsimp only
    split
    · next due =>
      refine h.withLink n fun up => absurd due ?_
      have offer := (links n).offer
      rw [up] at offer
      have stopped : (s.links.get n).offerDue = none := by simpa [LinkState.settling] using offer
      rw [stopped]
      exact Bool.false_ne_true
    · exact h
  | negotiationTimerExpiry n =>
    unfold effect
    dsimp only
    split
    · next due =>
      refine h.withLink n fun up => ?_
      rw [up] at due
      cases due.1
    · exact h
  | updateTimerExpiry n => exact ite_keeps (h.updateExpiry apart n) h
  | calWriteCompletion =>
    have written (n : Station) (k : CalConstants) : MembersReady (completeWrite n k s) :=
      (h.finished n ((s.cal.records.get n).rewrite k) false fun _ => rfl).subdued_same (Subdued.of_groups rfl)
        (sameBut_withUnit _ n _ (bs := [.units])) rfl
    unfold effect
    dsimp only
    split
    · exact ite_keeps (written _ _) h
    all_goals exact h
  | calLockCompletion =>
    unfold effect
    dsimp only
    split
    · exact ite_keeps (h.finished _ _ true id) h
    all_goals exact h
  | periodTimerExpiry g => exact ite_keeps (h.subdued_same (Subdued.runPeriod g s) (sameBut_runPeriod s g) rfl) h
  | engageTimerExpiry g =>
    exact ite_keeps (h.subdued_same (Subdued.engageFailed g s) (sameBut_engageFailed s g) rfl) h
  | permitTimerExpiry => exact ite_keeps h.permitExpired h
  | _ => cases hi

/-- Groups that are sound and links that fit, kept together. -/
theorem kept_groups_links :
    Kept ([.groups, .posted] ++ [.links, .settings]) (fun s => GroupsSound s ∧ LinksSound s) :=
  moveKept_groupsSound.kept.given (by decide) kept_links.reads (fun s l a _ h => kept_links.reset s l a h)
    (fun k held body s hk _ h => kept_links.request k held body s hk h) (fun i s hi _ h => kept_links.event i s hi h)
    fun s _ h => kept_links.settles s h

/-- The readiness of members, in company of sound groups and links. -/
theorem kept_ready : Kept (([.groups, .posted] ++ [.links, .settings]) ++ readyBlocks)
    (fun s => (GroupsSound s ∧ LinksSound s) ∧ MembersReady s) := by
  have apart {s : State} (h : GroupsSound s) : MembersApart s := ((groupsSound_iff s).mp h).1
  refine kept_groups_links.given (by decide) (fun s t same h => ?_) (fun s l a _ _ g d m hd => ?_)
    (fun k held body s hk other h => membersReady_request h (apart other.1) k held body hk)
    (fun i s hi other h => membersReady_event h (apart other.1) other.2 i hi) fun s _ h => h.settle
  · exact h.subdued (Subdued.of_groups (same .groups (by decide))) fun _ _ _ _ _ _ ready =>
      ready.congr (same .links (by decide)) (same .permit (by decide)) (same .cal (by decide))
  · rw [State.base, Quad.get_fill] at hd
    cases hd

/-- Settles O9: posted demands move with the groups alone; the members stay ready in company of sound groups and
links. -/
theorem stepKeepsDriving : Obligations.StepKeepsDriving := by
  intro s t members timed links driving posted h
  have sound := (groupsSound_iff s).mpr ⟨members, timed⟩
  have ready := kept_ready.step_keeps s t
    ⟨⟨sound, (linkTimed_iff s).mp links⟩, (drivingReady_iff s).mp driving⟩ h
  have kept := moveKept_posted.kept.step_keeps s t ((postedWhileDriving_iff s).mp posted) h
  exact ⟨(drivingReady_iff t).mpr ready.2, (postedWhileDriving_iff t).mpr kept⟩

end Sys2Proof.Machine
end

section
/-! SUPPORT. What a step takes: the command at the front of the queue, an own event that is due, or a tick; the statements on steps, and on the state right after reset. -/

set_option Elab.async false

namespace Sys2Proof.Machine

/-- Settles O1: the queue's front is the first case of a step. -/
theorem stepTakesTheFrontCommand : Obligations.StepTakesTheFrontCommand := by
  intro c rest s h
  unfold step
  rw [h]
  rfl

/-! ## The own events that are due -/

theorem mem_dueEvents (s : State) (i : Instr) : i ∈ dueEvents s ↔
    (∃ n, (true, i) ∈ stationEvents s n) ∨ (∃ g, (true, i) ∈ groupEvents s g) ∨ (true, i) ∈ singleEvents s
      ∨ (true, i) ∈ filterEvents s := by
  simp [dueEvents, mem_allFour]

theorem dueIn_blendStep (s : State) (g : GroupId) :
    DueIn s (.blendStep g) ↔ dueAt s.clock (s.scheds.get g).blendDue = true := by
  simp only [DueIn, Schedule.blendDue]
  cases (s.scheds.get g).blend <;> cases (s.scheds.get g).activatedAt <;> simp [dueAt]

theorem dueIn_segmentActivation (s : State) : DueIn s .segmentActivation ↔ headDue s = true := by
  simp only [DueIn, headDue]
  cases s.road.resolved.head? <;> simp [dueAt]

theorem dueIn_replySent (s : State) : DueIn s .replySent ↔ s.port.replyDone s.clock = true := by
  simp only [DueIn, Port.replyDone]
  cases s.port.tx <;> simp [dueAt]

theorem dueIn_durationEnd (s : State) (g : GroupId) :
    DueIn s (.durationEnd g) ↔ (s.scheds.get g).endDue s.clock = true := by
  simp [DueIn, Schedule.endDue, reached_iff]

theorem dueIn_filterTimerExpiry (s : State) (i : FilteredId) :
    DueIn s (.filterTimerExpiry i) ↔ (s.mon.flags.get i).expiryDue s.clock = true := by
  simp only [DueIn, Filtered.expiryDue, Bool.and_eq_true, beq_iff_eq]
  cases (s.mon.flags.get i).due with
  | none => simp [Reached]
  | some t => simp [Reached]

/-- The own events that are due are those of the timed rows that are due, but PORT_RESET. -/
theorem mem_dueEvents_iff (s : State) (i : Instr) : i ∈ dueEvents s ↔ DueIn s i ∧ i ≠ .portReset := by
  rw [mem_dueEvents]
  cases i with
  | estimationIntervalExpiry n | quietTimerExpiry n | offerTimerExpiry n | negotiationTimerExpiry n
  | updateTimerExpiry n | periodTimerExpiry g | engageTimerExpiry g | permitTimerExpiry | gapTimerExpiry =>
    simp [stationEvents, groupEvents, singleEvents, filterEvents, DueIn, reached_iff]
  | blendStep g => simp [stationEvents, groupEvents, singleEvents, filterEvents, dueIn_blendStep]
  | durationEnd g => simp [stationEvents, groupEvents, singleEvents, filterEvents, dueIn_durationEnd]
  | segmentActivation => simp [stationEvents, groupEvents, singleEvents, filterEvents, dueIn_segmentActivation]
  | replySent => simp [stationEvents, groupEvents, singleEvents, filterEvents, dueIn_replySent]
  | filterTimerExpiry k =>
    have listed : k ∈ filteredIds := mem_filteredIds k
    simp [stationEvents, groupEvents, singleEvents, filterEvents, dueIn_filterTimerExpiry, listed]
  | calWriteCompletion | calLockCompletion =>
    cases op : s.cal.op with
    | none => simp [stationEvents, groupEvents, singleEvents, filterEvents, DueIn, op]
    | some o => cases kind : o.kind <;> simp [stationEvents, groupEvents, singleEvents, filterEvents, DueIn, op, kind, dueAt]
  | _ => simp [stationEvents, groupEvents, singleEvents, filterEvents, DueIn]

/-! ## Timed rows that are not due -/

theorem runPeriod_not_running (s : State) (g : GroupId) (h : (s.groups.get g).state.running = false) :
    runPeriod g s = s := by
  cases state : (s.groups.get g).state <;> rw [state] at h
  case undefined | free | tripped => simp only [runPeriod, state]
  all_goals cases h

theorem offerTick_not_settling (l : Link) (now : CellTime) (t : Settings) (h : l.state.settling = false) :
    l.offerTick now t = l := by
  cases state : l.state <;> rw [state] at h
  case offer | acknowledge | confirm => cases h
  all_goals simp only [Link.offerTick, state]

theorem runActivations_not_due (s : State) (h : headDue s = false) : runActivations s = s := by
  have still : stillPending s.clock s.road.resolved = s.road.resolved ∧
      activatedBy s.clock s.road.resolved s.scheds = s.scheds := by
    cases queue : s.road.resolved with
    | nil => exact ⟨rfl, rfl⟩
    | cons x q =>
      have later : ¬ x.due ≤ s.clock := by simpa [headDue, queue, dueAt] using h
      simp [stillPending, activatedBy, later]
  rw [runActivations_eq, still.1, still.2]

/-- A timed row that is not due has no effect (log 3). -/
theorem effect_not_due (s : State) (i : Instr) (timed : i.timed = true) (h : ¬ DueIn s i) : effect i s = s := by
  cases i with
  | portReset =>
    refine if_neg fun due => h ?_
    simp only [Port.resetOrdered, Port.replyDone, Bool.and_eq_true] at due
    cases sending : s.port.tx <;> simp_all [DueIn, dueAt]
  | estimationIntervalExpiry n | quietTimerExpiry n | negotiationTimerExpiry n | updateTimerExpiry n
  | engageTimerExpiry g | permitTimerExpiry | gapTimerExpiry =>
    refine if_neg fun due => h ?_
    simpa only [DueIn, reached_iff] using due
  | offerTimerExpiry n =>
    simp only [DueIn, reached_iff, not_and] at h
    cases settling : (s.links.get n).state.settling with
    | true => exact if_neg (h settling)
    | false =>
      rw [effect, offerTick_not_settling _ _ _ settling, State.withLink, Quad.set_get, ite_self]
  | periodTimerExpiry g =>
    simp only [DueIn, reached_iff, not_and] at h
    cases running : (s.groups.get g).state.running with
    | true => exact if_neg (h running)
    | false => rw [effect, runPeriod_not_running s g running, ite_self]
  | calWriteCompletion | calLockCompletion =>
    unfold effect
    dsimp only
    split
    · next op => exact if_neg fun due => h ⟨_, Option.mem_toList.mpr op, by simp, due⟩
    all_goals rfl
  | blendStep g => exact if_neg (mt (dueIn_blendStep s g).mpr h)
  | durationEnd g => exact if_neg (mt (dueIn_durationEnd s g).mpr h)
  | segmentActivation =>
    exact runActivations_not_due s (Bool.eq_false_iff.mpr (mt (dueIn_segmentActivation s).mpr h))
  | filterTimerExpiry k => exact if_neg (mt (dueIn_filterTimerExpiry s k).mpr h)
  | replySent => exact if_neg (mt (dueIn_replySent s).mpr h)
  | _ => cases timed

/-- Settles O2: by the number of own events that are due. -/
theorem emptyQueueTicksOrTakesADueEvent : Obligations.EmptyQueueTicksOrTakesADueEvent := by
  refine ⟨fun s empty => ?_, mem_dueEvents_iff, fun s i settled timed h => ?_⟩
  · have taken (i : Instr) (t : State) (h : nextOwnEvent s = some (i, t)) : step s = exec i t := by
      rw [step, empty]
      dsimp only
      rw [h]
    refine ⟨fun none => ?_, fun i one => taken i s ?_, fun many => ?_⟩
    · have ticks : step s = .next (tick s) := by
        rw [step, empty]
        simp only [nextOwnEvent, none]
      exact ticks
    · rw [nextOwnEvent, one]
    · cases due : dueEvents s with
      | nil => simp [due] at many
      | cons i rest =>
        cases rest with
        | nil => simp [due] at many
        | cons j rest =>
          refine ⟨_, ?_, taken _ _ (by rw [nextOwnEvent, due]; rfl)⟩
          have within : Config.freeChoice s.freeCount % ((j :: rest).length + 1) < (i :: j :: rest).length :=
            Nat.mod_lt _ (Nat.succ_pos _)
          rw [List.getD_eq_getElem _ _ within]
          exact List.getElem_mem within
  · rw [exec_effect, effect_not_due s i timed h, settle_settled s settled]

/-! ## The state right after reset -/

theorem membersApart_reset : MembersApart State.reset := by
  have undefined : ∀ g ∈ allFour, (State.reset.groups.get g).defn = none := by decide +kernel
  refine ⟨by decide +kernel, fun g hg d hd => ?_, by decide +kernel⟩
  rw [undefined g hg] at hd
  cases hd

theorem storeSound_reset : StoreSound State.reset := by
  have blank : ∀ n ∈ allFour, State.reset.cal.records.get n = CalRecord.factory := by decide +kernel
  have settings : ∀ n ∈ allFour, (State.reset.settings.get n).InRange := by decide +kernel
  have idle : State.reset.cal.op = none := rfl
  refine ⟨fun n hn => ?_, fun o ho => ?_⟩
  · rw [blank n hn]
    exact ⟨nofun, nofun, settings n hn⟩
  · rw [idle] at ho
    cases ho

/-- Settles O3: each invariant is a finite check of one closed state. -/
theorem resetStateMeetsEveryInvariant : Obligations.ResetStateMeetsEveryInvariant := by
  refine ⟨?settled, ?trip, ?permit, ?capacity, ?order, membersApart_reset, ?timed, ?link, ?ready, ?posted, ?schedule,
    storeSound_reset, ?unit, ?port, ?filters⟩
  all_goals decide +kernel

end Sys2Proof.Machine
end

section
/-! SUPPORT. A request row on an idle port, by its effect and its reply; the statements on the requests that read, and on the port's own. -/

set_option Elab.async false

namespace Sys2Proof.Machine

section Rows

variable {s : State} {b : List Byte} (k : ReqKind) (tag : Byte) {body : List Byte} {st : Status} (hp : PortIdle s)
  (hb : body.length = k.bodyLength) (hk : k ≠ .resetExecute)
include hp hb hk

/-- A request that changes no block. -/
theorem exec_read (hs : Settled s)
    (h : perform k s.port.prepared body s.taking = (s.taking, { status := st, body := b })) :
    exec (k.row tag body) s = .next (s.replied k.code tag st b) :=
  (exec_row k tag body s).trans (submit_read k tag body s st b hs hp hb hk h)

/-- A request whose effect `u` leaves the monitor and what the conditions read. -/
theorem exec_quiet (u : State) (hs : Settled s)
    (h : perform k s.port.prepared body s.taking = (u.withPort s.taking.port, { status := st, body := b }))
    (port : u.port = s.port) (clock : u.clock = s.clock) (mon : u.mon = s.mon)
    (conditions : ∀ i, u.condition i = s.condition i) :
    exec (k.row tag body) s = .next (u.replied k.code tag st b) :=
  (exec_row k tag body s).trans (request_quiet k tag body s u st b hs hp hb hk h port clock mon conditions)

/-- A request whose effect is `u`. -/
theorem exec_taken (u : State)
    (h : perform k s.port.prepared body s.taking = (u.withPort s.taking.port, { status := st, body := b }))
    (port : u.port = s.port) (clock : u.clock = s.clock) :
    exec (k.row tag body) s = .next (settle (u.replied k.code tag st b)) :=
  (exec_row k tag body s).trans (request_taken k tag body s u st b hp hb hk h port clock)

end Rows

/-- The conditions read no other block than these. -/
theorem condition_eq {s t : State} (units : t.units = s.units) (links : t.links = s.links)
    (groups : t.groups = s.groups) (mon : t.mon = s.mon) (i : FilteredId) : t.condition i = s.condition i := by
  refine condition_congr s t (fun n => ?_) (fun n => ?_) ?_ ?_ i
  all_goals simp [units, links, groups, mon]

theorem condition_withMark (s : State) (m : MarkCapture) (i : FilteredId) : (s.withMark m).condition i = s.condition i :=
  condition_eq rfl rfl rfl rfl i

/-- A unit whose conditions stand. -/
theorem condition_withUnit (s : State) (n : Station) (u : EncoderUnit) (overspeed : u.overspeed = (s.units.get n).overspeed)
    (encoder : u.encoderCondition = (s.units.get n).encoderCondition) (i : FilteredId) :
    (s.withUnit n u).condition i = s.condition i := by
  refine condition_congr s (s.withUnit n u) (fun m => ?_) (fun _ => ⟨rfl, rfl, rfl⟩)
    (fun _ => ⟨rfl, fun _ => rfl, rfl⟩) rfl i
  rw [State.withUnit_units, Quad.get_set]
  split
  · next same => exact same ▸ ⟨overspeed, encoder⟩
  · exact ⟨rfl, rfl⟩

/-! ## Cell clock, mark capture and encoder units (R2, R5, R6, R20, R21) -/

/-- Settles O19. -/
theorem clockMarkAndEncoderRequests : Obligations.ClockMarkAndEncoderRequests := by
  refine ⟨fun s tag hs hp => ⟨?_, ?_, ?_⟩, fun s tag n hs hp => ⟨?_, ?_⟩⟩
  · exact exec_read .clockRead tag hp rfl (by decide) hs rfl
  · exact exec_quiet .markArm tag hp rfl (by decide) (s.withMark { s.mark with armed := true, valid := false }) hs rfl rfl
      rfl rfl (condition_withMark s _)
  · exact exec_read .markRead tag hp rfl (by decide) hs rfl
  · refine exec_read .encoderRead tag hp rfl (by decide) hs ?_
    simp only [perform, reqEncoderRead, stationBody_form]
    rfl
  · refine exec_quiet .encoderCounters tag hp rfl (by decide)
      (s.withUnit n { s.units.get n with illegalCount := 0, indexErrors := 0 }) hs ?_ rfl rfl rfl
      (condition_withUnit s n _ rfl rfl)
    simp only [perform, reqEncoderCounters, stationBody_form]
    rfl

/-! ## Drive links (R40, R41) -/

/-- A link whose state, drive fault and mismatch stand. -/
theorem condition_withLink (s : State) (n : Station) (l : Link) (state : l.state = (s.links.get n).state)
    (fault : l.fault = (s.links.get n).fault) (mismatch : l.mismatch = (s.links.get n).mismatch) (i : FilteredId) :
    (s.withLink n l).condition i = s.condition i := by
  refine condition_congr s (s.withLink n l) (fun _ => ⟨rfl, rfl⟩) (fun m => ?_)
    (fun _ => ⟨rfl, fun _ => rfl, rfl⟩) rfl i
  rw [State.withLink_links, Quad.get_set]
  split
  · next same => exact same ▸ ⟨state, fault, mismatch⟩
  · exact ⟨rfl, rfl, rfl⟩

theorem linkClassCode_eq_bit (c : LinkClass) : linkClassCode c = c.bit := by cases c <;> rfl

theorem le_one (v : Nat) : le 1 v = [BitVec.ofNat 8 v] := rfl

/-- The body of LINK STATUS, byte by byte (section 10.8). -/
theorem linkStatusBody_eq (l : Link) (t : Settings) : linkStatusBody l t =
    [BitVec.ofNat 8 (linkStateCode l.state), flagByte l.good, flagByte l.mode.isSome,
        BitVec.ofNat 8 ((l.mode.map (·.cls.bit)).getD 0), flagByte ((l.mode.map (·.feedback)).getD false),
        flagByte l.ceiling.isSome] ++ le 2 (l.ceiling.getD 0)
      ++ [flagByte l.recorded.isSome, BitVec.ofNat 8 ((l.recorded.map (·.content.classes.toNat)).getD 0),
        flagByte ((l.recorded.map (·.content.feedback)).getD false),
        (l.recorded.map (·.content.ceiling)).getD 0#8, flagByte ((l.recorded.map (·.mark)).getD false),
        (l.recorded.map (·.content.identity)).getD 0#8, flagByte l.ready, flagByte l.fault,
        flagByte l.force.isSome, flagByte l.driveSpeed.isSome, flagByte l.lastSent.isSome,
        flagByte ((l.lastSent.map (·.enable)).getD false)]
      ++ leInt 4 (l.force.getD 0) ++ leInt 4 (l.driveSpeed.getD 0)
      ++ leInt 4 ((l.lastSent.map (·.demand)).getD 0)
      ++ [flagByte l.mismatch, flagByte t.linkEnable] := by
  cases mode : l.mode <;> cases recorded : l.recorded
  all_goals simp [linkStatusBody, mode, recorded, present, linkClassCode_eq_bit, le_one]

/-- Settles O30. -/
theorem linkReads : Obligations.LinkReads := by
  intro s tag n hs hp
  refine ⟨?_, ?_⟩
  · refine exec_quiet .linkStatus tag hp rfl (by decide)
      (s.withLink n { s.links.get n with good := (s.links.get n).state == .up }) hs ?_ rfl rfl rfl
      (condition_withLink s n _ rfl rfl rfl)
    simp only [perform, reqLinkStatus, stationBody_form]
    exact congrArg (fun body => (_, okReply body)) (linkStatusBody_eq _ _)
  · refine exec_quiet .linkCounters tag hp rfl (by decide)
      (s.withLink n { s.links.get n with checkErrors := 0, missedReplies := 0, negotiationFailures := 0 }) hs ?_ rfl rfl rfl
      (condition_withLink s n _ rfl rfl rfl)
    simp only [perform, reqLinkCounters, stationBody_form]
    rfl

/-! ## The store and the settings (R52, R53, R58) -/

/-- The group of a station, where it belongs to one (R58). -/
theorem groupOf_eq_none (s : State) (n : Station) : s.groupOf n = none ↔ s.memberOf n (· != .undefined) = false :=
  groupOf_eq_none_iff s n

/-- The first part of CAL STATE: the operation in flight (R53). -/
def flightBytes (c : CalStore) : List Byte :=
  match c.op with
  | none => zeros 24
  | some o =>
    let k := o.kind.constants
    [1#8] ++ le 1 (calKindCode o.kind) ++ le 1 o.station.val ++ zeros 1 ++ le 6 o.acceptedAt ++ le 6 o.due
      ++ le 4 k.circumference ++ le 2 k.mass ++ le 2 k.lines

/-- The second part of CAL STATE: the last completion (R53). -/
def lastBytes (c : CalStore) : List Byte :=
  match c.last with
  | none => zeros 8
  | some d => le 1 (if d.wasLock then 2 else 1) ++ le 1 d.station.val ++ le 6 d.at_

theorem calStateBody_eq (c : CalStore) : calStateBody c = flightBytes c ++ lastBytes c := rfl

theorem flightBytes_length (c : CalStore) : (flightBytes c).length = 24 := by
  cases op : c.op <;> simp only [flightBytes, op] <;> rfl

theorem lastBytes_length (c : CalStore) : (lastBytes c).length = 8 := by
  cases last : c.last <;> simp only [lastBytes, last] <;> rfl

/-- Settles O33. -/
theorem storeAndStationReads : Obligations.StoreAndStationReads := by
  intro s tag n hs hp
  refine ⟨?_, ⟨flightBytes s.cal, lastBytes s.cal, flightBytes_length _, lastBytes_length _, ?_, ?_, ?_, ?_, ?_, ?_⟩,
    s.groupOf n, ?_, groupOf_eq_none s n, fun x hx => ?_⟩
  · refine exec_read .calRead tag hp rfl (by decide) hs ?_
    simp only [perform, reqCalRead, stationBody_form]
    rfl
  · exact exec_read .calState tag hp rfl (by decide) hs (by rw [← calStateBody_eq]; rfl)
  · intro none
    rw [flightBytes, none]
  · intro o k op kind
    rw [flightBytes, op]
    simp only [kind]
    rfl
  · intro o op kind
    rw [flightBytes, op]
    simp only [kind]
    rfl
  · intro none
    rw [lastBytes, none]
  · intro d last
    rw [lastBytes, last]
    dsimp only
    cases d.wasLock <;> rfl
  · refine exec_read .stationRead tag hp rfl (by decide) hs ?_
    simp only [perform, reqStationRead, stationBody_form]
    rfl
  · exact groupOf_some hx

/-! ## The port's own requests (R188 to R192) -/

/-- A request that changes the port alone. -/
theorem exec_ported (k : ReqKind) (tag : Byte) {body : List Byte} {s t : State} {r : Reply} (p : Port) (hs : Settled s)
    (hp : PortIdle s) (hb : body.length = k.bodyLength) (h : perform k s.port.prepared body s.taking = (t, r))
    (port : startReply ⟨k.code, tag, body⟩ (ordersReset ⟨k.code, tag, body⟩ r) r t = s.withPort p) :
    exec (k.row tag body) s = .next (s.withPort p) := by
  rw [exec_row, submit, done, acceptFrame_idle _ _ hp, takeRequest_defined k tag body s hb, h, port,
    settle_quiet s (s.withPort p) hs rfl (condition_withPort s p)]

/-- Settles O54. -/
theorem portRequests : Obligations.PortRequests := by
  intro s tag hs hp
  refine ⟨?_, ?_, fun none => ?_, fun some => ?_, fun held => ?_, fun released => ?_⟩
  · exact exec_read .cellStatus tag hp rfl (by decide) hs rfl
  · exact exec_ported .portCounters tag _ hs hp rfl rfl rfl
  · exact exec_ported .resetPrepare tag _ hs hp rfl (if_pos none) rfl
  · exact exec_read .resetPrepare tag hp rfl (by decide) hs (if_neg some)
  · exact exec_ported .resetExecute tag _ hs hp rfl (if_pos held) rfl
  · exact exec_ported .resetExecute tag _ hs hp rfl (if_neg (ne_true_of_eq_false released)) rfl

end Sys2Proof.Machine
end

section
/-! SUPPORT. The statements on the requests on the excursion log, the validity windows and the period rings (chapter 9). -/

set_option Elab.async false

namespace Sys2Proof.Machine

theorem condition_withExc (s : State) (e : ExcursionStore) (i : FilteredId) : (s.withExc e).condition i = s.condition i :=
  condition_eq rfl rfl rfl rfl i

theorem condition_withWindow (s : State) (g : GroupId) (w : Window) (i : FilteredId) :
    (s.withWindow g w).condition i = s.condition i := condition_eq rfl rfl rfl rfl i

theorem condition_withRing (s : State) (g : GroupId) (r : Ring) (i : FilteredId) :
    (s.withRing g r).condition i = s.condition i := condition_eq rfl rfl rfl rfl i

theorem Option.toNat_getD (o : Option (BitVec 16)) : (o.map (·.toNat)).getD 0 = (o.getD 0#16).toNat := by
  cases o <;> rfl

/-! ## Log and windows (R168, R171, R174) -/

/-- Settles O52. -/
theorem logFetchAndWindows : Obligations.LogFetchAndWindows := by
  intro s tag hs hp record kindByte causeBytes verdictBytes
  have causes (o : Option Cause) : causeBlock o = causeBytes o := by
    obtain _ | ⟨kind, at_, seq⟩ := o
    · rfl
    · simp only [causeBytes, causeBlock, Option.toNat_getD]
      cases kind <;> rfl
  have verdicts (o : Option Verdict) : verdictBlock o = verdictBytes o := by
    cases o with
    | none => rfl
    | some x => simp only [verdictBlock, verdictBytes, causes]
  refine ⟨fun v hv => ?_, fun g => ?_⟩
  · refine exec_quiet .excursionFetch tag hp rfl (by decide)
      (s.withExc { s.exc with log := s.exc.log.drop v, lost := 0 }) hs ?_ rfl rfl rfl (condition_withExc s _)
    simp only [perform, reqExcursionFetch, fetchBody_form v hv]
    rw [← List.length_take]
    rfl
  · intro w verdict shut
    refine ⟨fun v hv => ⟨fun refused => ?_, fun defined closed => ?_⟩, ?_, fun closed => ?_, fun isOpen => ?_⟩
    · refine exec_read .windowOpen tag hp rfl (by decide) hs ?_
      simp only [perform, reqWindowOpen, windowOpenBody_form g v hv]
      exact if_pos refused
    · intro opened
      refine exec_quiet .windowOpen tag hp rfl (by decide) (s.withWindow g opened) hs ?_ rfl rfl rfl
        (condition_withWindow s g _)
      simp only [perform, reqWindowOpen, windowOpenBody_form g v hv]
      exact if_neg (not_or.mpr ⟨defined, not_not_intro closed⟩)
    · refine exec_read .windowRead tag hp rfl (by decide) hs ?_
      simp only [perform, reqWindowRead, groupBody_form, causes, verdicts]
      rfl
    · refine exec_read .windowClose tag hp rfl (by decide) hs ?_
      have state : (s.taking.windows.get g).state = .closed := closed
      simp only [perform, reqWindowClose, groupBody_form, state]
      rfl
    · refine exec_quiet .windowClose tag hp rfl (by decide) (s.withWindow g shut) hs ?_ rfl rfl rfl
        (condition_withWindow s g _)
      rw [← verdicts (some verdict)]
      simp only [perform, reqWindowClose, groupBody_form]
      have state : (s.taking.windows.get g).state ≠ .closed := isOpen
      split
      · next e => exact absurd e state
      all_goals rfl

/-! ## Period rings (R176, R177, R178, R195) -/

theorem ringStateBits (e : RingEntry) :
    ringStateCode e.state + (if e.scaled then 8 else 0) + (if e.limited then 16 else 0)
        + (if e.demandLimited then 32 else 0) + (if e.ramping then 64 else 0)
      = ringStateCode e.state + 8 * bitsToNat [e.scaled, e.limited, e.demandLimited, e.ramping] := by
  simp only [bitsToNat]
  cases e.scaled <;> cases e.limited <;> cases e.demandLimited <;> cases e.ramping <;> rfl

/-- The read sequence from the start slot, within its own aligned part of the ring or around the whole ring (R177). -/
theorem slot_eq (q : RingQuery) (k : Nat) (hk : k < q.length) :
    q.slot k = if q.wrap then
        (if q.start % q.length + k < q.length then q.start + k else q.start + k - q.length)
      else (q.start + k) % 32 := by
  unfold RingQuery.slot
  refine ite_congr rfl (fun _ => ?_) fun _ => rfl
  dsimp only
  have base : q.start / q.length * q.length + q.start % q.length = q.start := Nat.div_add_mod' _ _
  have within : q.start % q.length < q.length := Nat.mod_lt _ (by omega)
  have offset : q.start - q.start / q.length * q.length = q.start % q.length := by omega
  rw [offset]
  split
  · next before => rw [Nat.mod_eq_of_lt before]; omega
  · next beyond => rw [Nat.mod_eq_sub_mod (by omega), Nat.mod_eq_of_lt (by omega)]; omega

/-- Settles O53. -/
theorem ringRequests : Obligations.RingRequests := by
  intro s tag g hs hp r frozen stateBits entryBytes
  have states (x : GroupState) : ringStateCode x = stateBits x := by cases x <;> rfl
  have entries (o : Option RingEntry) : ringEntryBytes o = entryBytes o := by
    cases o with
    | none => rfl
    | some e =>
      simp only [ringEntryBytes, entryBytes, ringStateBits, ← states]
      rw [hold_eq_max_min (-8388608) 8388607 _ (by decide)]
      rfl
  refine ⟨?_, ?_, fun start length page wrap range => ?_⟩
  · refine exec_quiet .ringFreeze tag hp rfl (by decide) (frozen true) hs ?_ rfl rfl rfl (condition_withRing s g _)
    simp only [perform, reqRingFreeze, groupBody_form]
    rfl
  · refine exec_quiet .ringUnfreeze tag hp rfl (by decide) (frozen false) hs ?_ rfl rfl rfl (condition_withRing s g _)
    simp only [perform, reqRingUnfreeze, groupBody_form]
    rfl
  · intro place
    refine exec_read .ringRead tag hp rfl (by decide) hs ?_
    simp only [perform, reqRingRead, ringReadBody_form g start length wrap page range]
    obtain ⟨_, lengths, inside⟩ := range
    have places (i : Nat) (hi : i < 8) :
        RingQuery.slot ⟨g, start, length, wrap, page⟩ (8 * page + i) = place (8 * page + i) :=
      slot_eq ⟨g, start, length, wrap, page⟩ _ (by dsimp only; omega)
    have slots : (List.range 8).map (fun i => RingQuery.slot ⟨g, start, length, wrap, page⟩ (8 * page + i))
        = (List.range 8).map fun i => place (8 * page + i) :=
      List.map_congr_left fun i hi => places i (List.mem_range.mp hi)
    rw [slots]
    simp only [List.flatMap_map, entries]
    rfl

end Sys2Proof.Machine
end

section
/-! SUPPORT. The statements on the mark edge and on the road-load scheduler (sections 1.2 and 6). -/

set_option Elab.async false

namespace Sys2Proof.Machine

/-- An event whose effect leaves the monitor and what the conditions read. -/
theorem exec_event_quiet {s t : State} (i : Instr) (hs : Settled s) (h : effect i s = t) (units : t.units = s.units)
    (links : t.links = s.links) (groups : t.groups = s.groups) (mon : t.mon = s.mon) : exec i s = .next t := by
  rw [exec_effect, h, settle_quiet s t hs mon (condition_eq units links groups mon)]

/-! ## The mark edge (R4, R113, R116) -/

theorem markEdge_armed (s : State) (armed : s.mark.armed = true) (m : MarkCapture)
    (hm : m = { s.mark with lastEdge := some s.clock, count := s.mark.count + 1#16, time := some s.clock, valid := true,
                            armed := false }) :
    markEdge s = if s.road.unresolved.any (fun x => x.start == 0) then
        runActivations ((s.withMark m).withRoad (resolveAll s.clock s.road))
      else (s.withMark m).withRoad (resolveAll s.clock s.road) := by
  subst hm
  exact if_pos armed

/-- Settles O20. -/
theorem markEdgeIsCountedAndResolves : Obligations.MarkEdgeIsCountedAndResolves := by
  intro s hs stamped
  refine ⟨fun idle => ?_, fun armed ordered => ?_⟩
  · refine exec_event_quiet .markInEdge hs ?_ rfl rfl rfl rfl
    exact if_neg (ne_true_of_eq_false idle)
  · have order := (RoadQueue.ordered_iff s).mpr ordered
    have edge := markEdge_armed s armed _ rfl
    refine ⟨(resolveAll s.clock s.road).resolved, resolveAll_perm s.clock s.road, (order.resolveAll s.clock).sorted,
      fun later => ?_, fun ⟨y, hy, atOnce⟩ => ?_⟩
    · refine exec_event_quiet .markInEdge hs ?_ rfl rfl rfl rfl
      have none : s.road.unresolved.any (fun x => x.start == 0) = false :=
        List.any_eq_false.mpr fun y hy => mt beq_iff_eq.mp (later y hy)
      rw [effect, edge, none]
      rfl
    · refine exec_event_quiet .markInEdge hs ?_ rfl rfl rfl rfl
      have some : s.road.unresolved.any (fun x => x.start == 0) = true :=
        List.any_eq_true.mpr ⟨y, hy, beq_iff_eq.mpr atOnce⟩
      rw [effect, edge, some, if_pos rfl, runActivations_eq]
      rfl

/-! ## SEGMENT QUEUE (R110, R111, R112, R116) -/

theorem segmentForm_length (x : Segment) (grade ramp : Bool) : (segmentForm x grade ramp).length = 40 := rfl

/-- A segment that is resolved takes its place by start and arrival, and activates at once where it is due. -/
theorem placeSegment_resolved (seg : Segment) (s : State) (due : CellTime)
    (h : (seg.basis = .absolute ∧ due = seg.start)
      ∨ (seg.basis = .mark ∧ s.mark.valid = true ∧ ∃ m, s.mark.time = some m ∧ due = m + seg.start))
    (placed : RoadQueue) (hr : placed = { s.road with
      resolved := insertResolved { seg := seg, due := due } s.road.resolved, nextArrival := s.road.nextArrival + 1 }) :
    placeSegment seg s = if due ≤ s.clock then (runActivations (s.withRoad placed), 2) else (s.withRoad placed, 0) := by
  subst hr
  unfold placeSegment
  obtain ⟨basis, rfl⟩ | ⟨basis, valid, m, time, rfl⟩ := h
  · simp only [basis]
    rfl
  · simp only [basis, valid, time]
    rfl

theorem placeSegment_unresolved (seg : Segment) (s : State) (basis : seg.basis = .mark) (invalid : s.mark.valid = false) :
    placeSegment seg s = (s.withRoad { s.road with
      unresolved := s.road.unresolved ++ [seg], nextArrival := s.road.nextArrival + 1 }, 1) := by
  simp only [placeSegment, basis, invalid]
  rfl

section Queueing

variable {x : Segment} {grade ramp : Bool} (inRange : x.InRange) (gradeZero : grade = false → x.coeffs.grade = 0)
  (rampZero : ramp = false → x.ramp = 0) (held : Bool) {s : State}
include inRange gradeZero rampZero

theorem segmentQueue_undefined (undefined : (s.groups.get x.group).state = .undefined) :
    perform .segmentQueue held (segmentForm x grade ramp) s = (s, refuse .state) := by
  simp only [perform, reqSegmentQueue, segmentBody_form x grade ramp inRange gradeZero rampZero]
  exact if_pos undefined

theorem segmentQueue_full (defined : (s.groups.get x.group).state ≠ .undefined) (full : 24 ≤ s.road.total) :
    perform .segmentQueue held (segmentForm x grade ramp) s = (s, refuse .full) := by
  simp only [perform, reqSegmentQueue, segmentBody_form x grade ramp inRange gradeZero rampZero]
  exact (if_neg defined).trans (if_pos full)

theorem segmentQueue_placed (defined : (s.groups.get x.group).state ≠ .undefined) (room : s.road.total < 24)
    {t : State} {code : Nat} (placed : placeSegment { x with arrival := s.road.nextArrival } s = (t, code)) :
    perform .segmentQueue held (segmentForm x grade ramp) s
      = (t, okReply (le 4 s.road.nextArrival ++ [BitVec.ofNat 8 code, 0#8])) := by
  simp only [perform, reqSegmentQueue, segmentBody_form x grade ramp inRange gradeZero rampZero]
  refine (if_neg defined).trans ((if_neg (Nat.not_le.mpr room)).trans ?_)
  rw [placed, List.append_assoc]
  rfl

end Queueing

/-- Settles O45. -/
theorem segmentQueue : Obligations.SegmentQueue := by
  intro s tag x grade ramp hs hp ordered inRange gradeZero rampZero i y pending resolvesTo
  have order := (RoadQueue.ordered_iff s).mpr ordered
  have quiet {st : Status} {b : List Byte} (u : State)
      (h : perform .segmentQueue s.port.prepared (segmentForm x grade ramp) s.taking
        = (u.withPort s.taking.port, { status := st, body := b })) :=
    exec_quiet (s := s) .segmentQueue tag hp rfl (by decide) u hs h
  refine ⟨fun undefined => ?_, fun defined full => ?_, fun defined room => ?_⟩
  · exact exec_read .segmentQueue tag hp rfl (by decide) hs
      (segmentQueue_undefined inRange gradeZero rampZero _ (s := s.taking) undefined)
  · exact exec_read .segmentQueue tag hp rfl (by decide) hs
      (segmentQueue_full inRange gradeZero rampZero _ (s := s.taking) defined full)
  · have placed {t : State} {code : Nat} (h : placeSegment y s.taking = (t, code)) :=
      segmentQueue_placed inRange gradeZero rampZero s.port.prepared (s := s.taking) defined room h
    have resolves (due : CellTime) (h : (y.basis = .absolute ∧ due = y.start)
        ∨ (y.basis = .mark ∧ s.mark.valid = true ∧ ∃ m, s.mark.time = some m ∧ due = m + y.start)) :
        resolvesTo due := by
      have place := placeSegment_resolved y s.taking due h _ rfl
      refine ⟨insertResolved { seg := y, due := due } s.road.resolved, insertResolved_perm _ _,
        (order.place_resolved y rfl due).sorted, fun later => ?_, fun reached => ?_⟩
      · exact quiet (s.withRoad _) (placed (place.trans (if_neg (Nat.not_le.mpr later)))) rfl rfl rfl
          (condition_eq rfl rfl rfl rfl)
      · have active := place.trans ((if_pos reached).trans (congrArg (·, 2) (runActivations_eq _)))
        exact quiet { s with road := _, scheds := _ } (placed active) rfl rfl rfl (condition_eq rfl rfl rfl rfl)
    refine ⟨fun absolute => resolves _ (.inl ⟨absolute, rfl⟩),
      fun marked valid m time => resolves _ (.inr ⟨marked, valid, m, time, rfl⟩), fun marked invalid => ?_⟩
    exact quiet (s.withRoad _) (placed (placeSegment_unresolved y s.taking marked invalid)) rfl rfl rfl
      (condition_eq rfl rfl rfl rfl)

/-! ## Removal and SCHEDULE READ (R125, R126, R128) -/

theorem length_sub_filter {α : Type} (l : List α) (keep : α → Bool) :
    l.length - (l.filter keep).length = (l.filter fun x => !keep x).length := by
  have split := List.length_eq_length_filter_add (l := l) keep
  omega

/-- What is removed is what does not pass the test. -/
theorem removePending_eq (keep : Segment → Bool) (s : State) : removePending keep s =
    (s.withRoad { s.road with resolved := s.road.resolved.filter fun x => keep x.seg,
                              unresolved := s.road.unresolved.filter keep },
      (s.road.resolved.filter fun x => !keep x.seg).length + (s.road.unresolved.filter fun x => !keep x).length) := by
  refine Prod.ext rfl ?_
  rw [← length_sub_filter, ← length_sub_filter]
  have resolved := List.length_filter_le (fun x : Resolved => keep x.seg) s.road.resolved
  have unresolved := List.length_filter_le keep s.road.unresolved
  simp only [removePending, RoadQueue.total]
  omega

theorem scheduleReadBody_eq (s : State) : scheduleReadBody s =
    scheduleBlock 0 s ++ scheduleBlock 1 s ++ scheduleBlock 2 s ++ scheduleBlock 3 s
      ++ [BitVec.ofNat 8 s.road.total, BitVec.ofNat 8 (24 - s.road.total), flagByte s.road.resolved.head?.isSome, 0#8]
      ++ le 6 ((s.road.resolved.head?.map (·.due)).getD 0) := by
  simp only [scheduleReadBody, present, Option.isSome_map, List.append_assoc]
  rfl

/-- Settles O46. -/
theorem segmentRemovalAndScheduleRead : Obligations.SegmentRemovalAndScheduleRead := by
  refine ⟨fun s tag hs hp => ?_, fun s tag hs hp => ?_⟩
  · intro kept removed
    refine ⟨fun g => ?_, fun v hv => ?_⟩
    · refine exec_quiet .segmentFlush tag hp rfl (by decide) (s.withRoad (kept fun x => x.group != g)) hs ?_ rfl rfl rfl
        (condition_eq rfl rfl rfl rfl)
      simp only [perform, reqSegmentFlush, groupBody_form, removePending_eq]
      rfl
    · refine exec_quiet .segmentCancel tag hp rfl (by decide) (s.withRoad (kept fun x => x.tag != v)) hs ?_ rfl rfl rfl
        (condition_eq rfl rfl rfl rfl)
      simp only [perform, reqSegmentCancel, tagBody_form v hv, removePending_eq]
      rfl
  · intro pending block
    refine exec_quiet .scheduleRead tag hp rfl (by decide) { s with scheds := clearLate s.scheds } hs ?_ rfl rfl rfl
      (condition_eq rfl rfl rfl rfl)
    simp only [perform, reqScheduleRead, scheduleReadBody_eq]
    rfl

/-! ## Activation, blend and duration end (R116 to R122) -/

/-- Settles O47. -/
theorem scheduleEvents : Obligations.ScheduleEvents := by
  intro s
  refine ⟨fun _ hs => ?_, fun g b a => ?_, fun g => ?_⟩
  · exact exec_event_quiet .segmentActivation hs (runActivations_eq s) rfl rfl rfl rfl
  · intro x e step blend at_ due hs going ended
    have reached : dueAt s.clock x.blendDue = true := by
      rw [show x.blendDue = some (a + e * 1000) by rw [Schedule.blendDue, blend, at_]]
      exact decide_eq_true due
    have run : effect (.blendStep g) s = s.withSched g x.blendStep := if_pos reached
    refine ⟨fun early => ?_, fun last => ?_⟩
    · refine exec_event_quiet (.blendStep g) hs (run.trans ?_) rfl rfl rfl rfl
      rw [show x.blendStep = going by rw [Schedule.blendStep, blend]; exact if_neg (Nat.not_le.mpr early)]
      rfl
    · refine exec_event_quiet (.blendStep g) hs (run.trans ?_) rfl rfl rfl rfl
      rw [show x.blendStep = ended by rw [Schedule.blendStep, blend]; exact if_pos last]
      rfl
  · intro x alerts active due
    have reached : x.endDue s.clock = true := by
      simp only [Schedule.endDue, active, (reached_iff s _).mp due]
      rfl
    rw [exec_effect, effect, if_pos reached]
    rfl

end Sys2Proof.Machine
end

section
/-! SUPPORT. The statements on the encoder capture units (section 1.3). -/

set_option Elab.async false

namespace Sys2Proof.Machine

theorem withUnit_withUnit (s : State) (n : Station) (u v : EncoderUnit) :
    (s.withUnit n u).withUnit n v = s.withUnit n v := by
  simp [State.withUnit]

/-! ## Decoding (R7, R8) -/

/-- The count of a valid transition before inversion. -/
theorem tableCount_valid : ∀ factor ∈ [1, 2, 4], ∀ a b a' b' : Bool, (a' = a ↔ b' ≠ b) →
    tableCount factor (a, b) (a', b')
      = if counts factor a a' b' then (if isForward a b a' b' then 1 else -1) else 0 := by decide

/-- A transition that is not counted takes the new levels alone; one that is counted counts up or down. -/
theorem takeSample_valid (n : Station) (a b : Bool) (fine : Nat) (s : State)
    (valid : a = (s.units.get n).lineA ↔ b ≠ (s.units.get n).lineB) :
    takeSample n a b fine s =
      if counts (s.settings.get n).decode (s.units.get n).lineA a b then
        countEdge n (isForward (s.units.get n).lineA (s.units.get n).lineB a b != (s.settings.get n).invert) fine
          (s.withUnit n { s.units.get n with lineA := a, lineB := b })
      else s.withUnit n { s.units.get n with lineA := a, lineB := b } := by
  have moved : ¬ (a = (s.units.get n).lineA ∧ b = (s.units.get n).lineB) := fun h => valid.mp h.1 h.2
  have legal : ¬ (a ≠ (s.units.get n).lineA ∧ b ≠ (s.units.get n).lineB) := fun h => h.1 (valid.mpr h.2)
  unfold takeSample
  dsimp only
  rw [if_neg moved, if_neg legal]

/-! ## A counted edge (R9, R10, R11, R15, R16) -/

theorem stepRun_eq (bad : Bool) (run : Nat) :
    stepRun bad run = (bad && decide (run + 1 < 1000), if bad then min (run + 1) 1000 else run) := by
  have full : Config.validRunFull = 1000 := rfl
  unfold stepRun
  rw [full]
  cases bad with
  | false => rfl
  | true =>
    by_cases short : run + 1 < 1000
    · simp [short, Nat.min_eq_left (Nat.le_of_lt short)]
    · simp [short, Nat.min_eq_right (Nat.not_lt.mp short)]

theorem countUp_eq (count : BitVec 32) (up : Bool) :
    (if up then count + 1#32 else count - 1#32) = count + BitVec.ofInt 32 (if up then 1 else -1) := by
  cases up
  · exact BitVec.sub_eq_add_neg _ _
  · rfl

theorem countEdge_unit (u : EncoderUnit) (up : Bool) (fine : Nat) :
    u.countEdge up fine =
      let e : Edge := { fine := fine, count := u.count + BitVec.ofInt 32 (if up then 1 else -1) }
      { u with
        count := e.count, lastCounted := some e, windowStart := some (u.windowStart.getD e), crawl := false,
        validRun := if u.transitionBad then min (u.validRun + 1) 1000 else u.validRun,
        transitionBad := u.transitionBad && decide (u.validRun + 1 < 1000) } := by
  simp only [EncoderUnit.countEdge, stepRun_eq, countUp_eq]
  cases u.windowStart <;> rfl

section Travel

variable (c d : Nat) (k travel : Int) (remainder : Nat)

theorem convertCount_exact (hd : 0 < d) :
    (convertCount c d k travel remainder).1 * d + (convertCount c d k travel remainder).2
      = travel * d + remainder + k * c := by
  have whole := Int.mul_fdiv_add_fmod (remainder + k * c) d
  have natural : 0 ≤ Int.fmod (remainder + k * c) d := Int.fmod_nonneg_of_pos _ (Int.natCast_pos.mpr hd)
  simp only [convertCount, Int.toNat_of_nonneg natural]
  linarith

/-- One count moves the travel by little (R10). -/
theorem convertCount_fits (hd : 0 < d) (hr : remainder < d) (hc : c ≤ 6000000) (hk : k = 1 ∨ k = -1)
    (small : travel.natAbs ≤ 9000000000000000000) : fits64 (convertCount c d k travel remainder).1 = true := by
  have exact := convertCount_exact c d k travel remainder hd
  have below : (convertCount c d k travel remainder).2 < d := fmod_lt _ hd
  generalize (convertCount c d k travel remainder).1 = v at exact ⊢
  generalize (convertCount c d k travel remainder).2 = r at exact below
  have moved : -(6000001 : Int) * d ≤ (v - travel) * d ∧ (v - travel) * d ≤ 6000001 * d := by
    have circumference : -(6000000 : Int) ≤ k * c ∧ k * c ≤ 6000000 := by rcases hk with rfl | rfl <;> omega
    have scale : (6000000 : Int) ≤ 6000000 * d := by omega
    rw [Int.sub_mul]
    omega
  have positive : (0 : Int) < d := Int.natCast_pos.mpr hd
  have near : -(6000001 : Int) ≤ v - travel ∧ v - travel ≤ 6000001 :=
    ⟨le_of_mul_le_mul_right moved.1 positive, le_of_mul_le_mul_right moved.2 positive⟩
  simp only [fits64, Bool.and_eq_true, decide_eq_true_eq]
  omega

end Travel

/-- A counted edge of a station: the travel is exact where the record is valid and the travel stays in its range, and a
free value beyond (log 7). -/
theorem countEdge_eq (n : Station) (up : Bool) (fine : Nat) (s : State) :
    ∃ (v : Int) (r j : Nat),
      countEdge n up fine s = { s with
        units := s.units.set n { (s.units.get n).countEdge up fine with travel := v, remainder := r }, freeCount := j }
        ∧ ((s.cal.records.get n).valid = false →
            v = (s.units.get n).travel ∧ r = (s.units.get n).remainder ∧ j = s.freeCount)
        ∧ ((s.cal.records.get n).valid = true →
          let exact := convertCount (s.cal.records.get n).circumference (s.divisor n) (if up then 1 else -1)
            (s.units.get n).travel (s.units.get n).remainder
          r = exact.2 ∧ (fits64 exact.1 = true → v = exact.1 ∧ j = s.freeCount)) := by
  cases valid : (s.cal.records.get n).valid with
  | false =>
    refine ⟨_, _, _, ?_, fun _ => ⟨rfl, rfl, rfl⟩, nofun⟩
    simp only [countEdge, valid]
    rfl
  | true =>
    cases fits : fits64 (convertCount (s.cal.records.get n).circumference (s.divisor n) (if up then 1 else -1)
      (s.units.get n).travel (s.units.get n).remainder).1 with
    | true =>
      refine ⟨_, _, _, ?_, nofun, fun _ => ⟨rfl, fun _ => ⟨rfl, rfl⟩⟩⟩
      have kept : ((s.units.get n).countEdge up fine).travel = (s.units.get n).travel
        ∧ ((s.units.get n).countEdge up fine).remainder = (s.units.get n).remainder := ⟨rfl, rfl⟩
      simp only [countEdge, valid, kept, fits, if_true]
      rfl
    | false =>
      refine ⟨(Config.freeTravel s.freeCount).toInt, _, s.freeCount + 1, ?_, nofun,
        fun _ => ⟨rfl, fun inside => nomatch fits.symm.trans inside⟩⟩
      have kept : ((s.units.get n).countEdge up fine).travel = (s.units.get n).travel
        ∧ ((s.units.get n).countEdge up fine).remainder = (s.units.get n).remainder := ⟨rfl, rfl⟩
      simp only [countEdge, valid, kept, fits, if_true]
      rfl

/-- The count that a transition of a station gives (R7, R8). -/
def stepCount (s : State) (n : Station) (a b : Bool) : Int :=
  (if (s.settings.get n).invert then -1 else 1)
    * tableCount (s.settings.get n).decode ((s.units.get n).lineA, (s.units.get n).lineB) (a, b)

section Transition

variable {s : State} {n : Station} {a b : Bool} (factor : (s.settings.get n).decode ∈ [1, 2, 4])
  (valid : a = (s.units.get n).lineA ↔ b ≠ (s.units.get n).lineB)
include factor valid

theorem stepCount_uncounted (uncounted : counts (s.settings.get n).decode (s.units.get n).lineA a b = false) :
    stepCount s n a b = 0 := by
  rw [stepCount, tableCount_valid _ factor _ _ _ _ valid, uncounted]
  exact Int.mul_zero _

theorem stepCount_counted (counted : counts (s.settings.get n).decode (s.units.get n).lineA a b = true) :
    stepCount s n a b = if isForward (s.units.get n).lineA (s.units.get n).lineB a b != (s.settings.get n).invert
      then 1 else -1 := by
  rw [stepCount, tableCount_valid _ factor _ _ _ _ valid, counted]
  cases isForward (s.units.get n).lineA (s.units.get n).lineB a b <;> cases (s.settings.get n).invert <;> rfl

end Transition

/-- Settles O21. -/
theorem validTransition : Obligations.ValidTransition := by
  intro s n a b frac store units u c t k e valid
  have records := (storeKept_iff s).mpr store
  have sound := (unitSound_iff s).mp units n
  have factor : (s.settings.get n).decode ∈ [1, 2, 4] := by
    obtain ⟨decode, _⟩ := records.settings n
    simpa using decode
  have fine : s.clock * 32 + frac.val = 32 * s.clock + frac.val := by rw [Nat.mul_comm]
  rw [exec_effect, effect, fine, takeSample_valid n a b _ s valid]
  have count : k = stepCount s n a b := rfl
  cases counted : counts (s.settings.get n).decode (s.units.get n).lineA a b with
  | false => exact ⟨fun _ => rfl, fun moved => absurd (stepCount_uncounted factor valid counted) moved⟩
  | true =>
    have direction := stepCount_counted factor valid counted
    rw [if_pos rfl]
    generalize (isForward (s.units.get n).lineA (s.units.get n).lineB a b != (s.settings.get n).invert) = up at direction ⊢
    have unit : (if up then 1 else -1 : Int) = 1 ∨ (if up then 1 else -1 : Int) = -1 := by cases up <;> simp
    have one : k = if up then 1 else -1 := direction
    obtain ⟨v, r, j, edge, unknown, known⟩ := countEdge_eq n up (32 * s.clock + frac.val)
      (s.withUnit n { u with lineA := a, lineB := b })
    rw [State.withUnit_units, Quad.get_set_self] at edge unknown known
    refine ⟨fun still => ?_, fun _ => ⟨v, r, j, ?_, unknown, fun hv => ?_, fun hv small => ?_⟩⟩
    · rcases unit with forward | back
      · exact absurd ((one.trans forward).symm.trans still) (by decide)
      · exact absurd ((one.trans back).symm.trans still) (by decide)
    · rw [edge, Quad.set_set, countEdge_unit, ← one]
      rfl
    all_goals
      have positive : 0 < s.divisor n := divisor_pos (records.records n) (records.settings n) hv
      obtain ⟨remainder, exact⟩ := known hv
    · rw [remainder]
      exact fmod_lt _ positive
    · obtain ⟨_, circumference, _⟩ := (records.records n).inRange hv
      obtain ⟨travel, free⟩ := exact (convertCount_fits _ _ _ _ _ positive (sound.remainder hv) circumference unit small)
      refine ⟨free, ?_⟩
      rw [travel, remainder, one]
      exact_mod_cast convertCount_exact c.circumference (s.divisor n) (if up then 1 else -1) u.travel u.remainder positive

/-- Settles O22. -/
theorem illegalTransitionAndEqualSample : Obligations.IllegalTransitionAndEqualSample := by
  intro s n a b frac u
  refine ⟨fun ha hb => ?_, fun ha hb hs => ?_⟩
  · have moved : ¬ (a = u.lineA ∧ b = u.lineB) := fun h => ha h.1
    rw [exec_effect, effect, takeSample, if_neg moved, if_pos ⟨ha, hb⟩, withUnit_withUnit, State.withUnit_units,
      Quad.get_set_self, EncoderUnit.illegal, satInc_eq_oneMore]
    rfl
  · have same : takeSample n a b (s.clock * 32 + frac.val) s = s := if_pos ⟨ha, hb⟩
    rw [exec_effect, effect, same, settle_settled s hs]

/-! ## Index events (R12, R13) -/

theorem indexGood_iff (d : Int) (divisor tolerance : Nat) : indexGood d divisor tolerance = true ↔
    (d - divisor).natAbs ≤ tolerance ∨ (d + divisor).natAbs ≤ tolerance ∨ d.natAbs ≤ tolerance := by
  simp [indexGood, or_assoc]

/-- The check of an armed unit against the last index position (R13). -/
theorem indexEvent_armed (u : EncoderUnit) (divisor tolerance : Nat) (armed : u.indexArmed = true) (p : BitVec 32)
    (last : u.lastIndex = some p) : u.indexEvent true true divisor tolerance =
      if indexGood (countDiff u.count p) divisor tolerance then
        { u with prevIndex := u.lastIndex, lastIndex := some u.count, indexBad := false }
      else { u with prevIndex := u.lastIndex, lastIndex := some u.count, indexBad := true,
                    indexErrors := oneMore u.indexErrors } := by
  rw [← satInc_eq_oneMore]
  cases u
  simp only at armed last
  subst armed last
  rfl

/-- Settles O23. -/
theorem indexEventCapturesAndChecks : Obligations.IndexEventCapturesAndChecks := by
  intro s n u t c d v left
  have indexed (w : EncoderUnit) (h : u.indexEvent t.checkIndex c.valid (s.divisor n) t.tolerance = w) : left w :=
    h ▸ exec_effect (.indexEvent n) s
  refine ⟨fun off => indexed _ ?_, fun check valid idle => indexed _ ?_, fun check valid armed p last => ?_⟩
  · have unchecked : (t.checkIndex && c.valid) = false := Bool.and_eq_false_iff.mpr off
    simp only [EncoderUnit.indexEvent, unchecked]
    rfl
  · simp only [EncoderUnit.indexEvent, check, valid, idle]
    rfl
  · intro interval good
    refine ⟨fun passes => indexed _ ?_, fun fails => indexed _ ?_⟩
    all_goals rw [check, valid, indexEvent_armed u _ _ armed p last]
    · exact if_pos ((indexGood_iff _ _ _).mpr passes)
    · exact if_neg (mt (indexGood_iff _ _ _).mp fails)

/-! ## The estimation interval (R15, R16, R17) -/

/-- Settles O24. -/
theorem estimationInterval : Obligations.EstimationInterval := by
  intro s n u c limit left crawling due
  have formed (w : EncoderUnit) (h : u.estimate c.circumference (s.divisor n) c.valid s.clock = w) : left w := by
    have run : effect (.estimationIntervalExpiry n) s = estimationExpiry n s := if_pos due
    show exec (.estimationIntervalExpiry n) s = _
    rw [exec_effect, run, ← h]
    rfl
  have age (w : Edge) : w.fine + Config.crawlAgeFine ≤ s.clock * 32 ↔ w.fine + 64000 * 32 ≤ 32 * s.clock := by
    rw [Nat.mul_comm s.clock]
    exact Iff.rfl
  refine ⟨fun none crawls => formed _ ?_, fun none moves => formed _ ?_, fun w e start last later => ?_,
    fun w start stale => ?_⟩
  · simp only [EncoderUnit.estimate, none, crawls]
    rfl
  · simp only [EncoderUnit.estimate, none, moves]
    rfl
  · refine formed _ ?_
    simp only [EncoderUnit.estimate, start, last, later, if_true]
    simp only [speedEstimate, hold32_eq_clamp32]
    rfl
  · have still : u.estimate c.circumference (s.divisor n) c.valid s.clock
        = if w.fine + Config.crawlAgeFine ≤ s.clock * 32 then u.toCrawl else u := by
      simp only [EncoderUnit.estimate, start]
      cases last : u.lastCounted with
      | none => rfl
      | some e => exact if_neg (Nat.not_lt.mpr (stale e last))
    refine ⟨fun old => formed _ ?_, fun young => formed _ ?_⟩
    · rw [still, if_pos ((age w).mpr old)]
      rfl
    · rw [still, if_neg (mt (age w).mp (Nat.not_le.mpr young))]

end Sys2Proof.Machine
end

section
/-! SUPPORT. The statements on the drive links outside UP (sections 2.1 to 2.3). -/

set_option Elab.async false

namespace Sys2Proof.Machine

/-! ## What the operations of a link leave, in the words of the statements -/

theorem backToOffer_eq (l : Link) (c : Option OfferContent) : l.backToOffer c = l.returned c := by
  cases c <;> rfl

/-- The run of equal offers (R27). -/
def Link.nextRun (l : Link) (w : OfferWord) : Nat :=
  if l.offerRun ≠ 0 ∧ l.offerContent = some w.content then l.offerRun + 1 else 1

theorem offerInOffer_eq (l : Link) (w : OfferWord) : l.offerInOffer w =
    if l.nextRun w = 3 then { l with
      offerContent := some w.content, offerRun := 3, plainRun := 0, state := .acknowledge, markedRun := 0,
      recorded := some { content := w.content, mark := w.mark } }
    else { l with offerContent := some w.content, offerRun := l.nextRun w, plainRun := 0 } := by
  have run : (if l.offerRun = 0 ∨ l.offerContent ≠ some w.content then 1 else l.offerRun + 1) = l.nextRun w := by
    unfold Link.nextRun
    by_cases again : l.offerRun ≠ 0 ∧ l.offerContent = some w.content
    · rw [if_pos again, if_neg (by tauto)]
    · rw [if_neg again, if_pos (by tauto)]
  simp only [Link.offerInOffer, run]
  split
  · next three => rw [three]
  · rfl

theorem statusInOffer_eq (l : Link) (now : CellTime) (t : Settings) : l.statusInOffer now t =
    let x : Link := { l with plainRun := l.plainRun + 1, offerRun := 0, offerContent := none }
    if l.plainRun + 1 = 3 then
      if t.classes.getLsbD 2 then
        ({ x with recorded := none } : Link).risen now { cls := .p1000, feedback := false } t.forceLimit
      else x.unmatched
    else x := rfl

theorem offerInAcknowledge_eq (l : Link) (w : OfferWord) (r : RecordedOffer) (hr : l.recorded = some r) :
    l.offerInAcknowledge w =
      let x : Link := { l with recorded := some { content := r.content, mark := w.mark },
                               markedRun := if w.mark then l.markedRun + 1 else 0 }
      if w.content = r.content then
        if (if w.mark then l.markedRun + 1 else 0) = 3 then { x with state := .confirm, confirmCount := 0 } else x
      else l.returned (some w.content) := by
  unfold Link.offerInAcknowledge
  rw [hr, backToOffer_eq]
  by_cases same : w.content = r.content
  · simp [same]
  · have changed : r.content ≠ w.content := fun e => same e.symm
    simp [same, changed]

theorem offerInConfirm_eq (l : Link) (w : OfferWord) (r : RecordedOffer) (hr : l.recorded = some r) :
    l.offerInConfirm w =
      if w.content = r.content ∧ w.mark = true then { l with recorded := some { content := r.content, mark := true } }
      else l.returned (some w.content) := by
  unfold Link.offerInConfirm
  rw [hr, backToOffer_eq]
  by_cases same : w.content = r.content
  · simp [same]
  · have changed : r.content ≠ w.content := fun e => same e.symm
    simp [same, changed]

/-- An event of a station's link. -/
theorem exec_link {i : Instr} {n : Station} {s : State} {l x : Link} (h : effect i s = s.withLink n l) (hl : l = x) :
    exec i s = .next (settle { s with links := s.links.set n x }) := by
  rw [exec_effect, h, hl]
  rfl

/-- The same where nothing changes that a condition reads. -/
theorem exec_link_quiet {i : Instr} {n : Station} {s : State} {l x : Link} (hs : Settled s)
    (h : effect i s = s.withLink n l) (hl : l = x) (state : l.state = (s.links.get n).state)
    (fault : l.fault = (s.links.get n).fault) (mismatch : l.mismatch = (s.links.get n).mismatch) :
    exec i s = .next { s with links := s.links.set n x } := by
  rw [exec_effect, h, settle_quiet s (s.withLink n l) hs rfl (condition_withLink s n l state fault mismatch), hl]
  rfl

/-! ## Frames (R22, R27, R28, R29, R31) -/

section Receive

variable {n : Station} {s : State}

theorem receiveDlk_deaf (h : (s.links.get n).state = .off ∨ (s.links.get n).state = .quiet ∨ (s.links.get n).state = .lost
    ∨ (s.links.get n).state = .noMatch) (f : DlkFrame) : receiveDlk n f s = s := by
  rcases h with h | h | h | h <;> simp only [receiveDlk, h]

theorem receiveDlk_badCheck (h : (s.links.get n).state.settling = true) :
    receiveDlk n .badCheck s = s.withLink n (s.links.get n).countCheckError := by
  cases state : (s.links.get n).state <;> rw [state] at h
  case offer | acknowledge | confirm => simp only [receiveDlk, state]
  all_goals cases h

theorem receiveDlk_offerInOffer (h : (s.links.get n).state = .offer) (w : OfferWord) :
    receiveDlk n (.offer w) s = s.withLink n ((s.links.get n).offerInOffer w) := by
  simp only [receiveDlk, h]

theorem receiveDlk_statusInOffer (h : (s.links.get n).state = .offer) (f : StatusFrame) :
    receiveDlk n (.status f) s = s.withLink n ((s.links.get n).statusInOffer s.clock (s.settings.get n)) := by
  simp only [receiveDlk, h]

theorem receiveDlk_offerInAcknowledge (h : (s.links.get n).state = .acknowledge) (w : OfferWord) :
    receiveDlk n (.offer w) s = s.withLink n ((s.links.get n).offerInAcknowledge w) := by
  simp only [receiveDlk, h]

theorem receiveDlk_offerInConfirm (h : (s.links.get n).state = .confirm) (w : OfferWord) :
    receiveDlk n (.offer w) s = s.withLink n ((s.links.get n).offerInConfirm w) := by
  simp only [receiveDlk, h]

theorem receiveDlk_statusWhileMatching (h : (s.links.get n).state = .acknowledge ∨ (s.links.get n).state = .confirm)
    (f : StatusFrame) : receiveDlk n (.status f) s = s.withLink n ((s.links.get n).backToOffer none) := by
  rcases h with h | h <;> simp only [receiveDlk, h]

end Receive

/-- Settles O25. -/
theorem framesOutsideUp : Obligations.FramesOutsideUp := by
  refine ⟨fun s n hs => ⟨fun deaf f => ?_, fun settling => ?_⟩, fun s n => ?_⟩
  · rw [exec_effect, effect, receiveDlk_deaf deaf, settle_settled s hs]
  · refine exec_link_quiet (i := .dlkFrameReceived n .badCheck) hs (receiveDlk_badCheck settling) ?_ rfl rfl rfl
    rw [Link.countCheckError, satInc_eq_oneMore]
  · intro l t left
    have frame {f : DlkFrame} {m x : Link} (h : receiveDlk n f s = s.withLink n m) (hm : m = x) : left f x :=
      exec_link (i := .dlkFrameReceived n f) h hm
    refine ⟨fun state w => ?_, fun state f => ?_, fun state r hr w => ?_, fun state r hr w => ?_, fun state f => ?_⟩
    · have taken {x : Link} :=
        frame (x := x) ((receiveDlk_offerInOffer state w).trans (congrArg _ (offerInOffer_eq l w)))
      exact ⟨fun other => taken (if_neg other), fun three => taken (if_pos three)⟩
    · have taken {x : Link} :=
        frame (x := x) ((receiveDlk_statusInOffer state f).trans (congrArg _ (statusInOffer_eq l s.clock t)))
      exact ⟨fun other => taken (if_neg other), fun three plain => taken ((if_pos three).trans (if_pos plain)),
        fun three none => taken ((if_pos three).trans (if_neg (ne_true_of_eq_false none)))⟩
    · have taken {x : Link} :=
        frame (x := x) ((receiveDlk_offerInAcknowledge state w).trans (congrArg _ (offerInAcknowledge_eq l w r hr)))
      exact ⟨fun same other => taken ((if_pos same).trans (if_neg other)),
        fun same three => taken ((if_pos same).trans (if_pos three)), fun changed => taken (if_neg changed)⟩
    · have taken {x : Link} :=
        frame (x := x) ((receiveDlk_offerInConfirm state w).trans (congrArg _ (offerInConfirm_eq l w r hr)))
      exact ⟨fun same mark => taken (if_pos ⟨same, mark⟩), fun changed => taken (if_neg fun h =>
        changed.elim (fun content => content h.1) fun unmarked => ne_true_of_eq_false unmarked h.2)⟩
    · exact frame (receiveDlk_statusWhileMatching state f) (backToOffer_eq l none)

/-! ## Timers of the negotiation (R23, R26, R27, R29, R30, R33) -/

theorem firstClass_none : firstClass 0#4 = none := by decide

/-- The shortest class of a set is the one whose bit is its lowest (R30). -/
theorem firstClass_some : ∀ (set : BitVec 4) (c : LinkClass), set.getLsbD c.bit = true →
    (∀ b, b < c.bit → set.getLsbD b = false) → firstClass set = some c := by
  intro set c has lower
  cases c
  all_goals
    have zero := lower 0
    have one := lower 1
    have two := lower 2
    simp_all [firstClass, LinkClass.bit]

section Resolve

variable (l : Link) (now : CellTime) (t : Settings) (r : RecordedOffer) (hr : l.recorded = some r)
include hr

theorem resolve_unmatched (none : t.classes &&& r.content.classes = 0#4) : l.resolve now t = l.unmatched := by
  simp only [Link.resolve, hr, none, firstClass_none]
  rfl

theorem resolve_risen (c : LinkClass) (has : (t.classes &&& r.content.classes).getLsbD c.bit = true)
    (lower : ∀ b, b < c.bit → (t.classes &&& r.content.classes).getLsbD b = false) :
    l.resolve now t = l.risen now { cls := c, feedback := r.content.feedback }
      (min (r.content.ceiling.toNat * 100) t.forceLimit) := by
  simp only [Link.resolve, hr, firstClass_some _ c has lower]
  rfl

end Resolve

/-- QUIET by a link that holds nothing of UP (R24, R26). -/
theorem toQuiet_eq (l : Link) (h : l.Idle) (now : CellTime) : l.toQuiet now = l.cleared .quiet (some (now + 150000)) := by
  obtain ⟨good, ready, fault, mismatch, force, driveSpeed, lastSent, outstanding⟩ := h
  unfold Link.toQuiet Link.forget Link.stopTimers Link.cleared
  rw [good, ready, fault, mismatch, force, driveSpeed, lastSent, outstanding]
  rfl

/-- The link with the part's own offer sent and the offer timer reloaded (R29). -/
def Link.offered (now : CellTime) (t : Settings) (mark : Bool) (l : Link) : Link :=
  { l with offerDue := some (now + 1000), sent := some { at_ := now, frame := .offer (t.ownOffer mark) } }

section Tick

variable {l : Link} (now : CellTime) (t : Settings)

theorem offerTick_offer (h : l.state = .offer) : l.offerTick now t = l.offered now t false := by
  cases l
  subst h
  rfl

theorem offerTick_acknowledge (h : l.state = .acknowledge) : l.offerTick now t = l.offered now t true := by
  cases l
  subst h
  rfl

theorem offerTick_confirm (h : l.state = .confirm) : l.offerTick now t =
    if l.confirmCount + 1 = 6 then ({ l.offered now t true with confirmCount := l.confirmCount + 1 } : Link).resolve now t
    else { l.offered now t true with confirmCount := l.confirmCount + 1 } := by
  cases l
  subst h
  rfl

end Tick

/-- Settles O26. -/
theorem negotiationTimers : Obligations.NegotiationTimers := by
  intro s n timed l t left offered confirmed
  have fits := (linkTimed_iff s).mp timed n
  have fired (m x : Link) (i : Instr) (h : effect i s = s.withLink n m) (hm : m = x) : left i x := exec_link h hm
  have ticked (reached : Reached s l.offerDue) {x : Link} (h : l.offerTick s.clock t = x) :
      left (.offerTimerExpiry n) x := fired _ _ _ (if_pos ((reached_iff s _).mp reached)) h
  refine ⟨fun state reached => ?_, fun state reached => ticked reached (offerTick_offer s.clock t state),
    fun state reached => ticked reached (offerTick_acknowledge s.clock t state),
    fun state reached other => ticked reached ((offerTick_confirm s.clock t state).trans (if_neg other)),
    fun state reached six r hr => ?_, fun settling reached => ?_⟩
  · exact fired _ _ (.quietTimerExpiry n) (if_pos ⟨state, (reached_iff s _).mp reached⟩) rfl
  · have resolved := (offerTick_confirm s.clock t state).trans (if_pos six)
    exact ⟨fun none => ticked reached (resolved.trans (resolve_unmatched confirmed s.clock t r hr none)),
      fun c has lower => ticked reached (resolved.trans (resolve_risen confirmed s.clock t r hr c has lower))⟩
  · refine fired _ _ (.negotiationTimerExpiry n) (if_pos ⟨settling, (reached_iff s _).mp reached⟩) ?_
    rw [satInc_eq_oneMore]
    exact toQuiet_eq { l with negotiationFailures := oneMore l.negotiationFailures }
      ((fits.idle_of_settling settling).congr rfl) s.clock

end Sys2Proof.Machine
end

section
/-! SUPPORT. The statements on the exchange in UP, and on LINK ENABLE and LINK RESTART (sections 2.1 and 2.4). -/

set_option Elab.async false

namespace Sys2Proof.Machine

/-! ## Missing replies (R36, R38) -/

theorem withLink_withLink (s : State) (n : Station) (l m : Link) : (s.withLink n l).withLink n m = s.withLink n m := by
  simp [State.withLink]

theorem withLink_self (s : State) (n : Station) : s.withLink n (s.links.get n) = s := by
  simp [State.withLink]

theorem missing_eq (l : Link) : l.missing = l.missedOne := by
  unfold Link.missing
  rw [satInc_eq_oneMore]
  rfl

theorem lose_eq (l : Link) (now : CellTime) (auto : Bool) : l.missedOne.lose now auto =
    if auto then l.missedOne.cleared .quiet (some (now + 150000)) else l.missedOne.dropped := rfl

/-- A missing reply at a station whose link is taken as `l`. -/
theorem judgeMissing_withLink (s : State) (n : Station) (l : Link) : judgeMissing n (s.withLink n l) = s.missedAt n l := by
  have found : (s.withLink n l).links.get n = l := by rw [State.withLink_links, Quad.get_set_self]
  unfold judgeMissing State.missedAt
  rw [found, missing_eq]
  dsimp only
  rw [lose_eq, withLink_withLink, withLink_withLink]
  rfl

theorem judgeMissing_eq (s : State) (n : Station) : judgeMissing n s = s.missedAt n (s.links.get n) := by
  rw [← judgeMissing_withLink, withLink_self]

/-! ## Replies (R36, R37, R39) -/

theorem awaiting_some {l : Link} {o : Outstanding} (ho : l.outstanding = some o) (open_ : o.judged = false) :
    l.awaiting = some o := by
  simp [Link.awaiting, ho, open_]

theorem awaiting_none {l : Link} (h : ∀ o, l.outstanding = some o → o.judged = true) : l.awaiting = none := by
  unfold Link.awaiting
  cases ho : l.outstanding with
  | none => rfl
  | some o => exact if_pos (h o ho)

theorem answer_eq (l : Link) (f : StatusFrame) (limit : Nat) (o : Outstanding) (up : l.state = .up)
    (ho : l.outstanding = some o) : l.answer f limit = { l with
      missingRun := 0, outstanding := some { o with judged := true }, force := some f.force.toInt,
      driveSpeed := if (l.mode.map (·.feedback)) = some true then some f.driveSpeed.toInt else none,
      ready := f.ready, fault := f.fault,
      mismatch := match l.lastSent with
        | some d => mismatchAt d.demand (some f.force.toInt) limit
        | none => false } := by
  obtain ⟨_, _, _, _, _, _, _, _, _, _, _, mode, _, _, _, _, _, _, _, _, lastSent⟩ := l
  simp only at up ho
  subst up ho
  unfold Link.answer Link.mismatchNow
  rcases mode with _ | ⟨_, _ | _⟩ <;> cases lastSent <;> rfl

section InUp

variable {n : Station} {s : State} (up : (s.links.get n).state = .up)
include up

theorem receiveDlk_statusInUp (f : StatusFrame) : receiveDlk n (.status f) s = statusInUp n f s := by
  simp only [receiveDlk, up]

theorem receiveDlk_offerInUp (w : OfferWord) : receiveDlk n (.offer w) s = spoiledInUp n s := by
  simp only [receiveDlk, up]

theorem receiveDlk_badCheckInUp :
    receiveDlk n .badCheck s = spoiledInUp n (s.withLink n (s.links.get n).countCheckError) := by
  simp only [receiveDlk, up]

end InUp

theorem spoiledInUp_judged {n : Station} {s : State} (h : (s.links.get n).awaiting = none) : spoiledInUp n s = s := by
  simp only [spoiledInUp, h]

theorem spoiledInUp_open {n : Station} {s : State} {o : Outstanding} (h : (s.links.get n).awaiting = some o) :
    spoiledInUp n s = judgeMissing n s := by
  simp only [spoiledInUp, h]

/-- Settles O27. -/
theorem repliesInUp : Obligations.RepliesInUp := by
  intro s n l up
  have counted : (s.withLink n l.countCheckError).links.get n = l.countCheckError := Quad.get_set_self _ _ _
  have checked : l.countCheckError = { l with checkErrors := oneMore l.checkErrors } := by
    rw [Link.countCheckError, satInc_eq_oneMore]
  refine ⟨fun o ho unjudged => ?_, fun judged hs => ?_⟩
  · have awaiting : l.awaiting = some o := awaiting_some ho unjudged
    have missed : spoiledInUp n s = s.missedAt n l := (spoiledInUp_open awaiting).trans (judgeMissing_eq s n)
    refine ⟨fun f echo => ?_, fun f other => ?_, fun w => ?_, ?_⟩
    · intro b
      have answered : statusInUp n f s = if f.ready then b else claimStation n b := by
        simp only [statusInUp, show (s.links.get n).awaiting = some o from awaiting, echo, if_true]
        rw [answer_eq l f _ o up ho]
        rfl
      rw [exec_effect, effect, receiveDlk_statusInUp up, answered]
      exact ⟨fun ready => by rw [ready]; rfl, fun idle => by rw [idle]; rfl⟩
    · have missing : statusInUp n f s = s.missedAt n l := by
        simp only [statusInUp, show (s.links.get n).awaiting = some o from awaiting, other, if_false]
        exact judgeMissing_eq s n
      rw [exec_effect, effect, receiveDlk_statusInUp up, missing]
    · rw [exec_effect, effect, receiveDlk_offerInUp up, missed]
    · have awaits : ((s.withLink n l.countCheckError).links.get n).awaiting = some o := by rw [counted]; exact awaiting
      rw [exec_effect, effect, receiveDlk_badCheckInUp up, spoiledInUp_open awaits, judgeMissing_withLink, checked]
  · have awaiting : l.awaiting = none := awaiting_none judged
    have awaits : ((s.withLink n l.countCheckError).links.get n).awaiting = none := by rw [counted]; exact awaiting
    refine ⟨fun f => ?_, fun w => ?_, ?_⟩
    · have discarded : statusInUp n f s = s := by
        simp only [statusInUp, show (s.links.get n).awaiting = none from awaiting]
      rw [exec_effect, effect, receiveDlk_statusInUp up, discarded, settle_settled s hs]
    · rw [exec_effect, effect, receiveDlk_offerInUp up, spoiledInUp_judged awaiting, settle_settled s hs]
    · exact exec_link_quiet (i := .dlkFrameReceived n .badCheck) hs
        ((receiveDlk_badCheckInUp up).trans (spoiledInUp_judged awaits)) checked rfl rfl rfl

/-! ## The update timer (R34, R35, R36) -/

theorem gated_eq (s : State) (n : Station) : s.gated n = s.gate n := by
  simp [State.gated, State.gate, State.permitted]

theorem sendCycle_eq (l : Link) (up : l.state = .up) (now : CellTime) (demand : Int) (enable : Bool) (limit : Nat) :
    l.sendCycle now demand enable limit =
      let q := if l.outstanding.isSome then l.seq + 1#4 else l.seq
      { l with seq := q, outstanding := some { seq := q, demand := demand, judged := false },
               lastSent := some { demand := demand, enable := enable },
               sent := some { at_ := now, frame := .cycle demand enable q },
               mismatch := mismatchAt demand l.force limit } := by
  unfold Link.sendCycle Link.mismatchNow Link.send
  dsimp only
  rw [up]
  cases l.force <;> rfl

/-- A cycle frame in mode `m` (R34, R35, R39). -/
theorem sendFrame_eq (s : State) (n : Station) (m : LinkMode) (up : (s.links.get n).state = .up)
    (mode : (s.links.get n).mode = some m) : sendFrame n s = s.cycleSent n m := by
  simp only [sendFrame, State.cycleSent, gated_eq, mode]
  refine (congrArg (s.withLink n) (sendCycle_eq _ ?_ _ _ _ _)).trans rfl
  exact up

theorem claimStation_links (s : State) (n : Station) : (claimStation n s).links = s.links :=
  sameBut_claimStation s n .links (by decide)

/-- Settles O28. -/
theorem updateExpirySendsTheGatedDemand : Obligations.UpdateExpirySendsTheGatedDemand := by
  intro s n m l up mode reached
  have run : effect (.updateTimerExpiry n) s = updateExpiry n s := if_pos ⟨up, (reached_iff s _).mp reached⟩
  refine ⟨fun judged => ?_, fun o ho unjudged => ?_⟩
  · have sent : updateExpiry n s = sendFrame n s := by
      simp only [updateExpiry, show (s.links.get n).awaiting = none from awaiting_none judged]
    rw [exec_effect, run, sent, sendFrame_eq s n m up mode]
  · have missing : updateExpiry n s = if ((s.missedAt n l).links.get n).state = .up then sendFrame n (s.missedAt n l)
        else s.missedAt n l := by
      simp only [updateExpiry, show (s.links.get n).awaiting = some o from awaiting_some ho unjudged, judgeMissing_eq]
      rfl
    refine ⟨fun other => ?_, fun three => ?_⟩
    · have stays : (s.missedAt n l).links.get n = l.missedOne := by
        rw [State.missedAt, if_neg other]
        exact Quad.get_set_self _ _ _
      rw [exec_effect, run, missing, stays, if_pos (show l.missedOne.state = .up from up), sendFrame_eq _ n m]
      · rw [stays]; exact up
      · rw [stays]; exact mode
    · have lost : ((s.missedAt n l).links.get n).state ≠ .up := by
        rw [State.missedAt, if_pos three, claimStation_links, Quad.get_set_self]
        cases (s.settings.get n).autoRenegotiate <;> exact LinkState.noConfusion
      rw [exec_effect, run, missing, if_neg lost]

/-! ## LINK ENABLE and LINK RESTART (R24, R25, R38) -/

/-- A link that is not UP holds nothing that leaving UP would clear. -/
theorem leaveUp_of_idle {on : Bool} {l : Link} (h : l.Fits on) (other : l.state ≠ .up) : l.leaveUp = l := by
  have stopped : l.updateDue = none := by simpa using mt h.update.mp other
  obtain ⟨good, ready, fault, mismatch, force, driveSpeed, lastSent, outstanding⟩ := h.idle other
  cases l
  simp_all only [Link.leaveUp]

theorem leaveIfUp_eq {on : Bool} {l : Link} (h : l.Fits on) : l.leaveIfUp = l.leaveUp := by
  by_cases up : l.state = .up
  · exact if_pos up
  · exact (if_neg up).trans (leaveUp_of_idle h up).symm

/-- A link is taken to another state, and leaving UP claims its station's group. -/
theorem moveLink_eq (s u : State) (n : Station) (m : Link → Link) {on : Bool} (fits : (s.links.get n).Fits on)
    (hu : u.links = s.links) : moveLink n m u =
      if (s.links.get n).state = .up then claimStation n (u.withLink n (m (s.links.get n).leaveUp))
      else u.withLink n (m (s.links.get n).leaveUp) := by
  simp only [moveLink, hu, leaveIfUp_eq fits]

section Requests

variable {n : Station} {t : State} (fits : (t.links.get n).Fits (t.settings.get n).linkEnable)
include fits

theorem linkEnable_fromOff (off : (t.links.get n).state = .off) : reqLinkEnable (linkEnableForm n true) t =
    ((t.withSettings n { t.settings.get n with linkEnable := true }).withLink n
      ((t.links.get n).cleared .quiet (some (t.clock + 150000))), okReply []) := by
  have idle := fits.idle (by rw [off]; decide)
  simp only [reqLinkEnable, linkEnableBody_form, off, if_true, toQuiet_eq _ idle]

/-- A link that is not OFF is enabled already. -/
theorem linkEnable_again (other : (t.links.get n).state ≠ .off) :
    reqLinkEnable (linkEnableForm n true) t = (t, okReply []) := by
  have enabled : (t.settings.get n).linkEnable = true := fits.enabled.mpr other
  have same : t.withSettings n { t.settings.get n with linkEnable := true } = t := by
    rw [← enabled]
    exact congrArg (fun settings => { t with settings := settings }) (Quad.set_get t.settings n)
  simp only [reqLinkEnable, linkEnableBody_form, other, if_true, if_false, same]

theorem linkEnable_off_down (down : (t.links.get n).state ≠ .up) : reqLinkEnable (linkEnableForm n false) t =
    ((t.withSettings n { t.settings.get n with linkEnable := false }).withLink n ((t.links.get n).cleared .off none),
      okReply []) := by
  have moved := moveLink_eq t (t.withSettings n { t.settings.get n with linkEnable := false }) n Link.toOff fits rfl
  simp only [reqLinkEnable, linkEnableBody_form, moved, down, if_false]
  rfl

theorem linkEnable_off_up (up : (t.links.get n).state = .up) : reqLinkEnable (linkEnableForm n false) t =
    (claimStation n ((t.withSettings n { t.settings.get n with linkEnable := false }).withLink n
      ((t.links.get n).cleared .off none)), okReply []) := by
  have moved := moveLink_eq t (t.withSettings n { t.settings.get n with linkEnable := false }) n Link.toOff fits rfl
  simp only [reqLinkEnable, linkEnableBody_form, moved, up, if_true]
  rfl

theorem linkRestart_down (other : (t.links.get n).state ≠ .off) (down : (t.links.get n).state ≠ .up) :
    reqLinkRestart (stationForm n) t =
      (t.withLink n ((t.links.get n).cleared .quiet (some (t.clock + 150000))), okReply []) := by
  simp only [reqLinkRestart, stationBody_form, other, if_false, moveLink_eq t t n _ fits rfl, down]
  rfl

theorem linkRestart_up (up : (t.links.get n).state = .up) : reqLinkRestart (stationForm n) t =
    (claimStation n (t.withLink n ((t.links.get n).cleared .quiet (some (t.clock + 150000)))), okReply []) := by
  simp only [reqLinkRestart, stationBody_form, moveLink_eq t t n _ fits rfl, up, if_true]
  rfl

end Requests

theorem claimStation_port (n : Station) (s : State) : (claimStation n s).port = s.port :=
  sameBut_claimStation s n .port (by decide)

theorem claimStation_clock (n : Station) (s : State) : (claimStation n s).clock = s.clock :=
  sameBut_claimStation s n .clock (by decide)

/-- Settles O29. -/
theorem linkEnableAndRestart : Obligations.LinkEnableAndRestart := by
  intro s tag n hp timed l enabled quiet
  have fits := (linkTimed_iff s).mp timed n
  have enabling {on : Bool} (u : State) (h : reqLinkEnable (linkEnableForm n on) s.taking
      = (u.withPort s.taking.port, okReply [])) (port : u.port = s.port) (clock : u.clock = s.clock) :
      exec (.linkEnable tag (linkEnableForm n on)) s = .next (settle (u.repliedOk 0x10#8 tag)) :=
    exec_taken .linkEnable tag hp rfl (by decide) u h port clock
  have restarting (u : State) (h : reqLinkRestart (stationForm n) s.taking = (u.withPort s.taking.port, okReply []))
      (port : u.port = s.port) (clock : u.clock = s.clock) :
      exec (.linkRestart tag (stationForm n)) s = .next (settle (u.repliedOk 0x11#8 tag)) :=
    exec_taken .linkRestart tag hp rfl (by decide) u h port clock
  have claimed (u : State) : (claimStation n (u.withPort s.taking.port), okReply [])
      = ((claimStation n u).withPort s.taking.port, okReply []) := by rw [claimStation_withPort]
  refine ⟨fun off => ?_, fun other => ?_, fun other => ?_, fun up => ?_,
    fun off => ?_, fun other down => ?_, fun up => ?_⟩
  · exact enabling { s with settings := _, links := _ } (linkEnable_fromOff (t := s.taking) fits off) rfl rfl
  · exact enabling s (linkEnable_again (t := s.taking) fits other) rfl rfl
  · exact enabling { s with settings := _, links := _ } (linkEnable_off_down (t := s.taking) fits other) rfl rfl
  · exact enabling _ ((linkEnable_off_up (t := s.taking) fits up).trans (claimed { s with settings := _, links := _ }))
      (claimStation_port n _) (claimStation_clock n _)
  · refine exec_taken .linkRestart tag hp rfl (by decide) s ?_ rfl rfl
    simp only [perform, reqLinkRestart, stationBody_form]
    exact if_pos off
  · exact restarting { s with links := _ } (linkRestart_down (t := s.taking) fits other down) rfl rfl
  · exact restarting _ ((linkRestart_up (t := s.taking) fits up).trans (claimed { s with links := _ }))
      (claimStation_port n _) (claimStation_clock n _)

end Sys2Proof.Machine
end

section
/-! SUPPORT. The statements on calibration operations, on STATION SET, and on defining, tuning and reading a group (R46 to R50, R56, R57, R66 to R69). -/

set_option Elab.async false

namespace Sys2Proof.Machine

/-! ## Calibration operations (R18, R46, R49, R50) -/

theorem condition_withCal (s : State) (c : CalStore) (i : FilteredId) : (s.withCal c).condition i = s.condition i :=
  condition_eq rfl rfl rfl rfl i

theorem rewrite_eq (r : CalRecord) (k : CalConstants) : r.rewrite k =
    { circumference := k.circumference, mass := k.mass, lines := k.lines, valid := true, locked := r.locked,
      serial := oneMore r.serial } := by
  rw [← satInc_eq_oneMore]
  rfl

/-- Where the rule of a request gives `p`, the request leaves `v`. -/
def Answers (k : ReqKind) (tag : Byte) (body : List Byte) (s : State) (p : State × Reply) (v : State) : Prop :=
  perform k s.port.prepared body s.taking = p → exec (k.row tag body) s = .next v

/-- The causes of a refusal in their order. -/
theorem Answers.ite {k : ReqKind} {tag : Byte} {body : List Byte} {s : State} {p q : State × Reply} {v w : State}
    {c : Prop} [Decidable c] (yes : Answers k tag body s p v) (no : Answers k tag body s q w) :
    Answers k tag body s (if c then p else q) (if c then v else w) := by
  split
  · exact yes
  · exact no

/-- Settles O31. -/
theorem calibrationOperations : Obligations.CalibrationOperations := by
  refine ⟨fun s tag n hs hp apart => ?_, fun s o op due => ?_⟩
  · intro r started
    refine ⟨fun k inRange => ?_, ?_⟩
    · have refused (st : Status) : Answers .calWrite tag (calWriteForm n k) s (s.taking, refuse st)
          (s.replied 0x18#8 tag st []) := exec_read .calWrite tag hp rfl (by decide) hs
      have begun : Answers .calWrite tag (calWriteForm n k) s ((started (.write k)).withPort s.taking.port, okReply [])
          ((started (.write k)).repliedOk 0x18#8 tag) := fun h =>
        exec_quiet .calWrite tag hp rfl (by decide) (started (.write k)) hs h rfl rfl rfl (condition_withCal s _)
      refine Answers.ite (refused _) (.ite (refused _) (.ite (refused _) begun)) ?_
      rw [← apart.inRunningGroup_eq]
      simp only [perform, reqCalWrite, calWriteBody_form n k inRange]
      rfl
    · have refused (st : Status) : Answers .calLock tag (stationForm n) s (s.taking, refuse st)
          (s.replied 0x1A#8 tag st []) := exec_read .calLock tag hp rfl (by decide) hs
      have begun : Answers .calLock tag (stationForm n) s ((started .lock).withPort s.taking.port, okReply [])
          ((started .lock).repliedOk 0x1A#8 tag) := fun h =>
        exec_quiet .calLock tag hp rfl (by decide) (started .lock) hs h rfl rfl rfl (condition_withCal s _)
      refine Answers.ite (refused _) (.ite (refused _) (.ite begun (refused _))) ?_
      simp only [perform, reqCalLock, stationBody_form]
      rfl
  · obtain ⟨kind, n, accepted, at_⟩ := o
    intro n r stored
    refine ⟨fun k hk => ?_, fun hk => ?_⟩
    · simp only at hk
      subst hk
      intro x
      have run : effect .calWriteCompletion s = completeWrite n k s := by
        simp only [effect, op]
        exact if_pos due
      rw [exec_effect, run, completeWrite, rewrite_eq]
      rfl
    · simp only at hk
      subst hk
      have run : effect .calLockCompletion s = completeLock n s := by
        simp only [effect, op]
        exact if_pos due
      rw [exec_effect, run, completeLock]
      rfl

/-! ## STATION SET (R18, R31, R56, R57) -/

theorem settingsChanged_restarts (l : Link) (old new : Settings) (restart : (l.state = .acknowledge ∨ l.state = .confirm)
      ∧ (old.classes ≠ new.classes ∨ old.forceLimit / 100 ≠ new.forceLimit / 100)) :
    l.settingsChanged old new = l.returned none := by
  obtain ⟨state, changed⟩ := restart
  rw [← backToOffer_eq]
  rcases state with e | e <;> simp only [Link.settingsChanged, e] <;> exact if_pos changed

theorem settingsChanged_stays (l : Link) (old new : Settings) (stays : ¬ ((l.state = .acknowledge ∨ l.state = .confirm)
      ∧ (old.classes ≠ new.classes ∨ old.forceLimit / 100 ≠ new.forceLimit / 100))) :
    l.settingsChanged old new = l := by
  unfold Link.settingsChanged
  split
  · next e => exact if_neg fun changed => stays ⟨.inl e, changed⟩
  · next e => exact if_neg fun changed => stays ⟨.inr e, changed⟩
  all_goals rfl

theorem stationSet_member {n : Station} {t : Settings} {s : State} (inRange : t.InRange)
    (member : s.memberOf n (· != .undefined) = true) :
    reqStationSet (stationSetForm n t) s = (s, refuse .state) := by
  have grouped : (s.groupOf n).isSome = true := by
    rw [Option.isSome_iff_ne_none]
    intro none
    rw [(groupOf_eq_none_iff s n).mp none] at member
    cases member
  simp only [reqStationSet, stationSetBody_form n t inRange]
  exact if_pos grouped

theorem stationSet_replaces {n : Station} {t : Settings} {s : State} (inRange : t.InRange)
    (alone : s.memberOf n (· != .undefined) = false) :
    reqStationSet (stationSetForm n t) s =
      (((s.withSettings n { t with linkEnable := (s.settings.get n).linkEnable }).withUnit n
        (s.units.get n).restarted).withLink n
        ((s.links.get n).settingsChanged (s.settings.get n) { t with linkEnable := (s.settings.get n).linkEnable }),
        okReply []) := by
  have ungrouped : ¬ (s.groupOf n).isSome = true := by simp [(groupOf_eq_none_iff s n).mpr alone]
  simp only [reqStationSet, stationSetBody_form n t inRange]
  exact if_neg ungrouped

/-- Settles O34. -/
theorem stationSet : Obligations.StationSet := by
  intro s tag n t hp inRange old l restart replaced
  have left (x : Link) (alone : s.memberOf n (· != .undefined) = false)
      (h : l.settingsChanged old { t with linkEnable := old.linkEnable } = x) :
      exec (.stationSet tag (stationSetForm n t)) s = .next (settle ((replaced x).repliedOk 0x1D#8 tag)) := by
    refine exec_taken .stationSet tag hp rfl (by decide) (replaced x) ?_ rfl rfl
    exact h ▸ stationSet_replaces (s := s.taking) inRange alone
  refine ⟨fun member => ?_, fun alone restarts => ?_, fun alone stays => ?_⟩
  · exact exec_taken .stationSet tag hp rfl (by decide) s (stationSet_member (s := s.taking) inRange member) rfl rfl
  · exact left _ alone (settingsChanged_restarts l old _ restarts)
  · exact left _ alone (settingsChanged_stays l old _ stays)

/-! ## Defining, tuning and reading a group (R66 to R69) -/

theorem takenElsewhere_iff (s : State) (g : GroupId) (ms : List Member) : s.takenElsewhere g ms = true ↔
    ∃ m ∈ ms, ∃ h ∈ allFour, h ≠ g ∧ (s.groups.get h).state ≠ .undefined
      ∧ (s.groups.get h).hasMember m.station = true := by
  simp [State.takenElsewhere, List.any_eq_true, and_assoc]

/-- A field holds the low part of its value. -/
theorem le_mod (n v : Nat) : le n (v % 256 ^ n) = le n v := by
  induction n generalizing v with
  | zero => rfl
  | succ n ih =>
    have byte : BitVec.ofNat 8 (v % 256 ^ (n + 1)) = BitVec.ofNat 8 v := by
      apply BitVec.eq_of_toNat_eq
      rw [byte_toNat, byte_toNat]
      exact Nat.mod_mod_of_dvd v (Dvd.intro_left (256 ^ n) rfl)
    have rest : v % 256 ^ (n + 1) / 256 = v / 256 % 256 ^ n := by
      rw [Nat.pow_succ', Nat.mod_mul_right_div_self]
    rw [le, le, byte, rest, ih]

/-- Four signed fields are the fields of the numbers they stand for. -/
theorem padFour_eq (n : Nat) (xs : List Int) :
    padFour (leInt n) xs = fourFields (le n) (xs.map fun v => (v.emod ((256 ^ n : Nat) : Int)).toNat) := by
  have field (i : Nat) : leInt n (xs.getD i 0)
      = le n ((xs.map fun v => (v.emod ((256 ^ n : Nat) : Int)).toNat).getD i 0) := by
    have padded := List.getD_map (d := 0) (l := xs) (n := i) fun v : Int => (v.emod ((256 ^ n : Nat) : Int)).toNat
    rw [show (Int.emod 0 ((256 ^ n : Nat) : Int)).toNat = 0 from congrArg Int.toNat (Int.zero_emod _)] at padded
    rw [padded]
    rfl
  simp only [padFour, fourFields, field]

theorem padFour_natCast (n : Nat) (xs : List Nat) :
    padFour (leInt n) (xs.map fun v : Nat => (v : Int)) = fourFields (le n) xs := by
  have field (i : Nat) : leInt n ((xs.map fun v : Nat => (v : Int)).getD i 0) = le n (xs.getD i 0) := by
    rw [show (0 : Int) = ((0 : Nat) : Int) from rfl, List.getD_map]
    exact le_mod n _
  simp only [padFour, fourFields, field]

theorem definitionBytes_eq (g : GroupId) (d : GroupDef) : definitionBytes d = (groupDefineForm g d).drop 1 := by
  have stations : padFour (leInt 1) (d.members.map fun m => (m.station.val : Int))
      = fourFields (le 1) (d.members.map (·.station.val)) := by
    rw [← padFour_natCast, List.map_map]
    rfl
  have shares : padFour (leInt 2) (d.members.map fun m => (m.share : Int))
      = fourFields (le 2) (d.members.map (·.share)) := by
    rw [← padFour_natCast, List.map_map]
    rfl
  simp only [definitionBytes, stations, shares, groupDefineForm, tuningForm, List.append_assoc]
  cases d.kind <;> rfl

theorem rampFraction_perMille (d : GroupDef) (progress : Nat) :
    (rampFraction d.ramp progress).1 * 1000 / (rampFraction d.ramp progress).2
      = if d.ramp = 0 then 1000 else progress * 1000 / (d.ramp * 1000) := by
  unfold rampFraction
  split <;> rfl

section Rules

variable {g : GroupId} {s : State}

theorem groupDefine_refused {d : GroupDef} (inRange : d.InRange)
    (cause : ((s.groups.get g).state ≠ .undefined ∧ (s.groups.get g).state ≠ .free)
      ∨ s.takenElsewhere g d.members = true) :
    reqGroupDefine (groupDefineForm g d) s = (s, refuse .state) := by
  simp only [reqGroupDefine, groupDefineBody_form g d inRange]
  rcases cause with running | taken
  · exact if_pos running
  · rw [if_pos taken, ite_self]

theorem groupDefine_defines {d : GroupDef} (inRange : d.InRange)
    (free : (s.groups.get g).state = .undefined ∨ (s.groups.get g).state = .free)
    (apart : ¬ s.takenElsewhere g d.members = true) :
    reqGroupDefine (groupDefineForm g d) s =
      ({ s with groups := s.groups.set g ((s.groups.get g).defined d), posted := zeroedFor d.members s.posted,
                rings := s.rings.set g Ring.reset }, okReply []) := by
  have stopped : ¬ ((s.groups.get g).state ≠ .undefined ∧ (s.groups.get g).state ≠ .free) := by tauto
  simp only [reqGroupDefine, groupDefineBody_form g d inRange]
  rw [if_neg stopped, if_neg apart, postZero_eq, State.withRing_groups, State.withGroup_groups, Quad.get_set_self]
  rfl

theorem groupTune_undefined {t : Tuning} (inRange : t.InRange) (undefined : (s.groups.get g).state = .undefined) :
    reqGroupTune (groupTuneForm g t) s = (s, refuse .state) := by
  simp only [reqGroupTune, groupTuneBody_form g t inRange, undefined]

theorem groupTune_tunes {t : Tuning} (inRange : t.InRange) {d : GroupDef} (defined : (s.groups.get g).state ≠ .undefined)
    (defn : (s.groups.get g).defn = some d) : reqGroupTune (groupTuneForm g t) s =
      (s.withGroup g { s.groups.get g with defn := some { d with tuning := t } }, okReply []) := by
  simp only [reqGroupTune, groupTuneBody_form g t inRange, defn]

end Rules

theorem groupReadBytes_undefined (x : Group) (posted : Quad Int) (undefined : x.state = .undefined) :
    groupReadBytes x posted = zeros 112 := by
  simp only [groupReadBytes, undefined]
  rfl

/-- The body of GROUP READ for a defined group, field by field (section 10.8). -/
theorem groupReadBytes_defined (g : GroupId) (x : Group) (posted : Quad Int) (d : GroupDef)
    (defined : x.state ≠ .undefined) (defn : x.defn = some d) : groupReadBytes x posted =
      [BitVec.ofNat 8 (groupStateCode x.state)] ++ (groupDefineForm g d).drop 1
        ++ [flagByte x.offsets.isSome, BitVec.ofNat 8 x.confirm, flagByte x.openSlip.isSome,
          flagByte x.periodDue.isSome, flagByte x.engageDue.isSome, 0#8]
        ++ le 2 ((x.openSlip.map (·.seq.toNat)).getD 0)
        ++ fourFields (fun v => le 8 v) ((x.offsets.getD []).map fun v => (v.emod (2 ^ 64)).toNat)
        ++ le 4 x.rampProgress ++ le 2 (if d.ramp = 0 then 1000 else x.rampProgress * 1000 / (d.ramp * 1000))
        ++ [0#8, 0#8] ++ le 4 x.periodSeq.toNat
        ++ fourFields (fun v => le 2 v) (d.members.map fun m => ((posted.get m.station).emod 65536).toNat)
        ++ le 6 (x.periodDue.getD 0) ++ le 6 (x.engageDue.getD 0) := by
  have demands : padFour (leInt 2) (d.members.map fun m => posted.get m.station)
      = fourFields (le 2) (d.members.map fun m => ((posted.get m.station).emod 65536).toNat) := by
    rw [padFour_eq, List.map_map]
    rfl
  have offsets : padFour (leInt 8) (x.offsets.getD [])
      = fourFields (le 8) ((x.offsets.getD []).map fun v => (v.emod (2 ^ 64)).toNat) := padFour_eq 8 _
  unfold groupReadBytes
  rw [defn]
  split
  · next undefined => exact absurd undefined defined
  · next none _ => cases none
  · next some _ =>
    cases some
    simp only [rampFraction_perMille, definitionBytes_eq g, demands, offsets, List.append_assoc]
    rfl

/-- Settles O35. -/
theorem groupDefineTuneRead : Obligations.GroupDefineTuneRead := by
  intro s tag g hp x
  refine ⟨fun d inRange => ?_, fun t inRange => ⟨fun undefined => ?_, fun d defined defn => ?_⟩, fun undefined => ?_,
    fun d defined defn => ?_⟩
  · intro taken fresh emptied
    have elsewhere : s.takenElsewhere g d.members = true ↔ taken := takenElsewhere_iff s g d.members
    refine ⟨fun cause => ?_, fun free apart => ?_⟩
    · exact exec_taken .groupDefine tag hp rfl (by decide) s
        (groupDefine_refused (s := s.taking) inRange (cause.imp_right elsewhere.mpr)) rfl rfl
    · exact exec_taken .groupDefine tag hp rfl (by decide) { s with groups := _, posted := _, rings := _ }
        (groupDefine_defines (s := s.taking) inRange free (mt elsewhere.mp apart)) rfl rfl
  · exact exec_taken .groupTune tag hp rfl (by decide) s (groupTune_undefined (s := s.taking) inRange undefined) rfl rfl
  · exact exec_taken .groupTune tag hp rfl (by decide) (s.withGroup g _)
      (groupTune_tunes (s := s.taking) inRange defined defn) rfl rfl
  · refine exec_taken .groupRead tag hp rfl (by decide) s ?_ rfl rfl
    simp only [perform, reqGroupRead, groupReadBody_form]
    rw [groupReadBytes_undefined (s.taking.groups.get g) _ undefined]
    rfl
  · intro perMille
    refine exec_taken .groupRead tag hp rfl (by decide) s ?_ rfl rfl
    simp only [perform, reqGroupRead, groupReadBody_form]
    rw [groupReadBytes_defined g (s.taking.groups.get g) _ d defined defn]
    rfl

end Sys2Proof.Machine
end

section
/-! SUPPORT. The statements on ENGAGE and its timeout, and on RELEASE and DISBAND (R70 to R75, R127, R166, R173). -/

set_option Elab.async false

namespace Sys2Proof.Machine

/-! ## ENGAGE (R70, R71) -/

theorem tooSlow_eq (l : Link) (period : Nat) :
    l.tooSlow period = l.mode.any fun u => decide (period < u.cls.period) := by
  unfold Link.tooSlow Link.updatePeriod
  cases l.mode <;> rfl

theorem usable_not (c : CalStore) (n : Station) :
    (!c.usable n) = (!(c.records.get n).valid || c.writing n) := by
  rw [CalStore.usable, Bool.not_and, Bool.not_not]

theorem engageRefusal_eq (d : GroupDef) (s : State) : engageRefusal d s =
    if s.mon.tripOut then some .tripped
    else if d.members.any fun m => !((s.links.get m.station).state == .up && (s.links.get m.station).ready) then
      some .noLink
    else if d.members.any fun m => (s.links.get m.station).mode.any fun u => decide (d.period < u.cls.period) then
      some .mismatch
    else if (d.members.any fun m => !s.permit.mask.getLsbD m.station.val)
        || d.members.any fun m => !(s.cal.records.get m.station).valid || s.cal.writing m.station then some .state
    else none := by
  simp only [engageRefusal, tooSlow_eq, usable_not, Bool.or_eq_true, ite_or]
  rfl

theorem startGroup_eq (g : GroupId) (d : GroupDef) (s : State) : startGroup g d s =
    { s with
      groups := s.groups.set g { s.groups.get g with
        state := .engaging, offsets := some (d.members.map fun m => (s.units.get m.station).travel),
        history := List.replicate 8 (clamp32 (referenceSpeed d.kind (d.members.map fun m => (s.units.get m.station).speed))),
        rampProgress := 0, confirm := 0, periodDue := some (s.clock + d.period),
        engageDue := some (s.clock + d.engageTimeout * 1000), engagedAt := some s.clock },
      rings := s.rings.set g { s.rings.get g with frozen := false },
      mon := { s.mon with alerts := { s.mon.alerts with
        calUnlocked := s.mon.alerts.calUnlocked
          || d.members.any fun m => !(s.cal.records.get m.station).locked } } } := by
  unfold startGroup
  rw [hold32_eq_clamp32]
  cases unlocked : d.members.any fun m => !(s.cal.records.get m.station).locked with
  | true => rw [Bool.or_true]; rfl
  | false => rw [Bool.or_false]; rfl

theorem reqEngage_refused {g : GroupId} {s : State} (free : (s.groups.get g).state ≠ .free)
    (held : (s.groups.get g).state ≠ .held) : reqEngage (groupForm g) s = (s, refuse .state) := by
  simp only [reqEngage, groupBody_form]
  cases state : (s.groups.get g).state with
  | free => exact absurd state free
  | held => exact absurd state held
  | _ => rfl

section Engage

variable {g : GroupId} {s : State} (state : (s.groups.get g).state = .free ∨ (s.groups.get g).state = .held)
  {d : GroupDef} (defn : (s.groups.get g).defn = some d)
include state defn

theorem reqEngage_cause {st : Status} (cause : engageRefusal d s = some st) :
    reqEngage (groupForm g) s = (s, refuse st) := by
  rcases state with state | state <;> simp only [reqEngage, groupBody_form, state, defn, cause]

theorem reqEngage_starts (none : engageRefusal d s = none) :
    reqEngage (groupForm g) s = (startGroup g d s, okReply []) := by
  rcases state with state | state <;> simp only [reqEngage, groupBody_form, state, defn, none]

end Engage

/-- Settles O36. -/
theorem engageAndItsTimeout : Obligations.EngageAndItsTimeout := by
  refine ⟨fun s tag g hp => ?_, fun s g a => ?_⟩
  · intro x
    refine ⟨fun free held => ?_, fun d state defn => ?_⟩
    · exact exec_taken .engage tag hp rfl (by decide) s (reqEngage_refused (s := s.taking) free held) rfl rfl
    · intro noLink slow denied unusable unlocked speeds ref started
      have refused {st : Status} (cause : engageRefusal d s.taking = some st) :
          exec (.engage tag (groupForm g)) s = .next (settle (s.replied 0x23#8 tag st [])) :=
        exec_taken .engage tag hp rfl (by decide) s (reqEngage_cause (s := s.taking) state defn cause) rfl rfl
      have causes := engageRefusal_eq d s.taking
      split
      · next out => exact refused (causes.trans (if_pos out))
      · next quiet =>
        have causes := causes.trans (if_neg quiet)
        split
        · next down => exact refused (causes.trans (if_pos down))
        · next linked =>
          have causes := causes.trans (if_neg linked)
          split
          · next long => exact refused (causes.trans (if_pos long))
          · next fast =>
            have causes := causes.trans (if_neg fast)
            split
            · next barred => exact refused (causes.trans (if_pos barred))
            · next ready =>
              refine exec_taken .engage tag hp rfl (by decide) { s with groups := _, rings := _, mon := _ } ?_ rfl rfl
              refine (reqEngage_starts (s := s.taking) state defn (causes.trans (if_neg ready))).trans ?_
              rw [startGroup_eq]
              rfl
  · intro x r freed engaging engaged due
    have run : effect (.engageTimerExpiry g) s = engageFailed g s := if_pos ⟨engaging, (reached_iff s _).mp due⟩
    rw [exec_effect, run, engageFailed_eq, show (s.groups.get g).engagedAt = some a from engaged]
    rfl

/-! ## RELEASE (R74) -/

theorem releaseGroup_withPort (g : GroupId) (s : State) (p : Port) :
    releaseGroup g (s.withPort p) = (releaseGroup g s).withPort p := by
  cases ho : (s.groups.get g).openSlip with
  | none =>
    rw [releaseGroup_noRecord g s ho, releaseGroup_noRecord g (s.withPort p) ho, ← windowCause_withPort]
    rfl
  | some o =>
    rw [releaseGroup_record g s o ho, releaseGroup_record g (s.withPort p) o ho, ← windowCause_withPort,
      logRecord_withPort]
    rfl

section Release

variable {g : GroupId} {s : State}

theorem reqRelease_idle (idle : (s.groups.get g).state = .undefined ∨ (s.groups.get g).state = .free) :
    reqRelease (groupForm g) s = (s, refuse .state) := by
  rcases idle with state | state <;> simp only [reqRelease, groupBody_form, state]

theorem reqRelease_tripped (state : (s.groups.get g).state = .tripped) (out : s.mon.tripOut = true) :
    reqRelease (groupForm g) s = (s, refuse .tripped) := by
  simp only [reqRelease, groupBody_form, state, out, if_true]

theorem reqRelease_frees (h : (s.groups.get g).state.running = true
      ∨ ((s.groups.get g).state = .tripped ∧ s.mon.tripOut = false)) :
    reqRelease (groupForm g) s = (releaseGroup g s, okReply []) := by
  simp only [reqRelease, groupBody_form]
  rcases h with running | ⟨state, out⟩
  · cases state : (s.groups.get g).state with
    | undefined | free | tripped =>
      rw [state] at running
      cases running
    | engaging | locked | slipping | held => rfl
  · rw [state, out]
    rfl

end Release

/-! ## DISBAND (R75, R127, R173) -/

/-- What a DISBAND leaves of the group's window (R173). -/
def Window.disbanded (w : Window) (now : CellTime) : Window :=
  if w.state = .closed then w
  else { state := .closed, limit := 0, openedAt := 0, cause := none,
         last := some { invalid := true,
                        cause := if w.state = .openValid then some { kind := .disband, at_ := now, seq := none }
                          else w.cause,
                        limit := w.limit, openedAt := w.openedAt, closedAt := now, byDisband := true } }

theorem disbandWindow_eq (g : GroupId) (s : State) :
    disbandWindow g s = s.withWindow g ((s.windows.get g).disbanded s.clock) := by
  cases state : (s.windows.get g).state with
  | closed =>
    rw [disbandWindow, windowCause_closed g none _ s (by rw [state]; decide)]
    simp only [state, Window.disbanded, if_true]
    exact (congrArg (fun windows => { s with windows := windows }) (Quad.set_get s.windows g)).symm
  | openValid =>
    rw [disbandWindow, windowCause_own g none s .disband state nofun]
    simp only [Quad.get_set_self, State.withWindow, Quad.set_set, Window.disbanded, state]
    rfl
  | openInvalid =>
    rw [disbandWindow, windowCause_closed g none _ s (by rw [state]; decide)]
    simp only [state, Window.disbanded]
    rfl

theorem disbandGroup_eq (g : GroupId) (s : State) : disbandGroup g s = { s with
    groups := s.groups.set g (s.groups.get g).disbanded,
    posted := zeroedFor (s.groups.get g).members s.posted,
    road := { s.road with
      resolved := s.road.resolved.filter fun y => y.seg.group != g,
      unresolved := s.road.unresolved.filter fun y => y.group != g },
    scheds := s.scheds.set g { Schedule.reset with late := (s.scheds.get g).late },
    windows := s.windows.set g ((s.windows.get g).disbanded s.clock) } := by
  rw [disbandGroup, disbandWindow_eq, postZero_eq]
  rfl

/-- Settles O37. -/
theorem releaseAndDisband : Obligations.ReleaseAndDisband := by
  intro s tag g hp x released freeable
  have leaves (frees : freeable) {u : State} (h : releaseGroup g s = u) :
      exec (.release tag (groupForm g)) s = .next (settle (u.repliedOk 0x24#8 tag)) := by
    refine h ▸ exec_taken .release tag hp rfl (by decide) (releaseGroup g s) ?_
      (sameBut_releaseGroup s g .port (by decide)) (sameBut_releaseGroup s g .clock (by decide))
    exact (reqRelease_frees (s := s.taking) frees).trans (congrArg (·, okReply []) (releaseGroup_withPort g s _))
  refine ⟨fun idle => ?_, fun state out => ?_, fun frees none => ?_, fun frees o some => ?_,
    fun other => ?_, fun free => ?_⟩
  · exact exec_taken .release tag hp rfl (by decide) s (reqRelease_idle (s := s.taking) idle) rfl rfl
  · exact exec_taken .release tag hp rfl (by decide) s (reqRelease_tripped (s := s.taking) state out) rfl rfl
  · exact leaves frees (releaseGroup_noRecord g s none)
  · have closed := releaseGroup_record g s o some
    rw [withGroupIdle, logRecord_posted] at closed
    exact leaves frees closed
  · refine exec_taken .disband tag hp rfl (by decide) s ?_ rfl rfl
    simp only [perform, reqDisband, groupBody_form]
    exact if_neg other
  · intro w gone idle first shut
    refine exec_taken .disband tag hp rfl (by decide)
      { s with groups := _, posted := _, road := _, scheds := _, windows := _ } ?_ rfl rfl
    simp only [perform, reqDisband, groupBody_form, disbandGroup_eq]
    exact if_pos free

end Sys2Proof.Machine
end

section
/-! SUPPORT. The statements on the torque permits and on the protection monitor (chapters 7 and 8). -/

set_option Elab.async false

namespace Sys2Proof.Machine

/-! ## Torque permits (R131 to R136, R140) -/

/-- The permit unit after an accepted grant, in one record (R133). -/
theorem grant_eq (p : Permit) (m : BitVec 4) (now : CellTime) : p.grant m now =
    { p with mask := m, due := if m = 0#4 then none
                               else if p.mask = 0#4 then some (now + p.time * 1000) else p.due } := by
  unfold Permit.grant
  by_cases none : m = 0#4
  · simp only [none, if_true]
  · by_cases first : p.mask = 0#4
    · simp only [none, first, if_true, if_false]
      rfl
    · simp only [none, first, if_false]

/-- Settles O48. -/
theorem torquePermits : Obligations.TorquePermits := by
  intro s tag m hp p granted
  refine ⟨fun v low high => ?_, ?_, ?_, ?_, fun due => ?_⟩
  · refine exec_taken .permitTime tag hp rfl (by decide) (s.withPermit { p with time := v }) ?_ rfl rfl
    simp only [perform, reqPermitTime, permitTimeBody_form v low high]
    rfl
  · have refused (st : Status) : Answers .permitGrant tag (maskForm m) s (s.taking, refuse st)
        (settle (s.replied 0x31#8 tag st [])) := fun h => exec_taken .permitGrant tag hp rfl (by decide) s h rfl rfl
    have removed := fun u : State => sameBut_claimRemoved u (p.mask &&& ~~~m)
    have taken : Answers .permitGrant tag (maskForm m) s
        (claimRemoved (p.mask &&& ~~~m) (s.taking.withPermit (p.grant m s.clock)), okReply [])
        (settle ((claimRemoved (p.mask &&& ~~~m) (s.withPermit granted)).repliedOk 0x31#8 tag)) := fun h => by
      refine exec_taken .permitGrant tag hp rfl (by decide) _ (h.trans ?_) (removed _ .port (by decide))
        (removed _ .clock (by decide))
      rw [← claimRemoved_withPort, grant_eq]
      rfl
    rw [apply_ite settle, apply_ite settle]
    refine Answers.ite (refused _) (.ite (refused _) taken) ?_
    simp only [perform, reqPermitGrant, maskBody_form]
    rfl
  · have refused : Answers .permitRenew tag (maskForm m) s (s.taking, refuse .mismatch)
        (settle (s.replied 0x32#8 tag .mismatch [])) := fun h => exec_taken .permitRenew tag hp rfl (by decide) s h rfl rfl
    have renewed : Answers .permitRenew tag (maskForm m) s
        ((s.withPermit { p with due := some (s.clock + p.time * 1000) }).withPort s.taking.port, okReply [])
        (settle ((s.withPermit { p with due := some (s.clock + p.time * 1000) }).repliedOk 0x32#8 tag)) := fun h =>
      exec_taken .permitRenew tag hp rfl (by decide) _ h rfl rfl
    rw [apply_ite settle]
    refine Answers.ite renewed refused ?_
    simp only [perform, reqPermitRenew, maskBody_form]
    rfl
  · exact exec_taken .permitRead tag hp rfl (by decide) s rfl rfl rfl
  · have run : effect .permitTimerExpiry s = permitExpired s := if_pos ((reached_iff s _).mp due)
    rw [exec_effect, run]
    rfl

/-! ## Filter timers, safety inputs and forced flags (R143, R145, R150, R151) -/

theorem mapFlag_get (m : Monitor) (i j : FilteredId) (h : Filtered → Filtered) :
    (m.mapFlag i h).flags.get j = if j = i then h (m.flags.get j) else m.flags.get j :=
  FilteredFlags.get_mapIds _ _ _

theorem mapKind_get (m : Monitor) (k : FilterKind) (i : FilteredId) (h : Filtered → Filtered) :
    (m.mapKind k h).flags.get i = if i.kind = k then h (m.flags.get i) else m.flags.get i :=
  FilteredFlags.get_mapIds _ _ _

/-- Settles O49. -/
theorem filterExpirySafetyInputsAndForcedFlags : Obligations.FilterExpirySafetyInputsAndForcedFlags := by
  intro s
  refine ⟨fun i pending due => ⟨(s.mon.mapFlag i Filtered.expire).flags, ?_, ?_, fun j other => ?_⟩, fun level => ?_,
    fun low => ?_, ?_, fun tag trip alert hp => ?_⟩
  · have run : effect (.filterTimerExpiry i) s = s.withMon (s.mon.mapFlag i Filtered.expire) :=
      if_pos ((dueIn_filterTimerExpiry s i).mp ⟨pending, due⟩)
    rw [exec_effect, run]
    rfl
  · rw [mapFlag_get, if_pos rfl]
    rfl
  · rw [mapFlag_get, if_neg other]
  · exact exec_effect (.tripInChange level) s
  · rw [exec_effect, effect, low, Bool.not_false, Bool.and_true, Bool.or_true]
    rfl
  · rw [exec_effect, effect, Bool.false_and, Bool.or_false]
    rfl
  · refine exec_taken .forceSet tag hp rfl (by decide) (s.withMon _) ?_ rfl rfl
    simp only [perform, reqForceSet, forceSetBody_form]
    rfl

/-! ## FILTER SET and SOURCE ENABLE (R148, R149) -/

theorem PerKind.set_get {α : Type} (t : PerKind α) (k : FilterKind) : t.set k (t.get k) = t := by
  cases k <;> rfl

theorem retime_eq (old new : Nat) (f : Filtered) : f.retime old new =
    if new = 0 ∧ old ≠ 0 ∧ f.state = .pending then { f with state := .clear, due := none }
    else if new ≠ 0 ∧ old = 0 ∧ f.state = .clear ∧ f.level = true then { f with state := .latched }
    else f := by
  unfold Filtered.retime
  by_cases same : old = new
  · subst same
    rw [if_pos rfl, if_neg (fun h => h.2.1 h.1), if_neg (fun h => h.1 h.2.1)]
  · rw [if_neg same]
    by_cases off : new = 0
    · have was : old ≠ 0 := fun zero => same (zero.trans off.symm)
      cases state : f.state <;> simp [off, was]
    · by_cases was : old = 0
      · cases state : f.state <;> cases level : f.level <;> simp [off, was]
      · simp [off, was]

/-- Two guarded changes under one condition. -/
theorem ite_guarded {α : Type} {c a b : Prop} [Decidable c] [Decidable a] [Decidable b] (x y z : α) :
    (if c then (if a then x else if b then y else z) else z)
      = if c ∧ a then x else if c ∧ b then y else z := by
  by_cases h : c <;> simp [h]

theorem setFilter_get (m : Monitor) (k : FilterKind) (t : Nat) (i : FilteredId) :
    (m.setFilter k t).flags.get i = if i.kind = k ∧ m.enabled.get k = true then
      (m.flags.get i).retime (m.times.get k) t else m.flags.get i := by
  cases on : m.enabled.get k with
  | true => simp only [Monitor.setFilter, on, if_true, mapKind_get, and_true]
  | false => simp [Monitor.setFilter, on]

/-- FILTER SET changes the filter times and the flags alone. -/
theorem setFilter_eq (m : Monitor) (k : FilterKind) (t : Nat) :
    m.setFilter k t = { m with times := m.times.set k t, flags := (m.setFilter k t).flags } := by
  unfold Monitor.setFilter
  cases m.enabled.get k <;> rfl

theorem setSource_get (m : Monitor) (k : FilterKind) (on : Bool) (now : CellTime) (i : FilteredId) :
    (m.setSource k on now).flags.get i =
      if i.kind = k ∧ on = false then (m.flags.get i).disable
      else if i.kind = k ∧ on = true ∧ m.enabled.get k = false then (m.flags.get i).enable (m.times.get k) now
      else m.flags.get i := by
  cases on with
  | false => simp [Monitor.setSource, mapKind_get]
  | true => cases was : m.enabled.get k <;> simp [Monitor.setSource, was, mapKind_get]

/-- SOURCE ENABLE changes the enables and the flags alone. -/
theorem setSource_eq (m : Monitor) (k : FilterKind) (on : Bool) (now : CellTime) :
    m.setSource k on now = { m with enabled := m.enabled.set k on, flags := (m.setSource k on now).flags } := by
  cases on with
  | false => rfl
  | true =>
    cases was : m.enabled.get k with
    | false => simp only [Monitor.setSource, was]; rfl
    | true =>
      have same : m.enabled.set k true = m.enabled := was ▸ PerKind.set_get m.enabled k
      simp only [Monitor.setSource, was, same, if_true]

theorem enable_eq (time : Nat) (now : CellTime) (f : Filtered) : f.enable time now =
    if f.level = true ∧ time ≠ 0 then { f with state := .pending, due := some (now + time * 100) } else f := by
  unfold Filtered.enable Filtered.appear filterDue
  by_cases level : f.level = true <;> by_cases zero : time = 0 <;> simp [level, zero]

/-- Settles O50. -/
theorem filterSetAndSourceEnable : Obligations.FilterSetAndSourceEnable := by
  intro s tag k hp old was
  refine ⟨fun v hv => ⟨(s.mon.setFilter k v).flags, ?_, fun i => ?_⟩,
    fun on => ⟨(s.mon.setSource k on s.clock).flags, ?_,
    fun i => ?_⟩⟩
  · refine exec_taken .filterSet tag hp rfl (by decide) (s.withMon _) ?_ rfl rfl
    simp only [perform, reqFilterSet, filterSetBody_form k v hv]
    rw [setFilter_eq]
    rfl
  · intro f
    rw [setFilter_get, retime_eq]
    rw [ite_guarded]
    simp only [and_assoc]
    rfl
  · refine exec_taken .sourceEnable tag hp rfl (by decide) (s.withMon _) ?_ rfl rfl
    simp only [perform, reqSourceEnable, sourceEnableBody_form]
    rw [setSource_eq]
    rfl
  · intro f
    rw [setSource_get, enable_eq, ← ite_and]
    simp only [and_assoc]
    rfl

/-! ## Flags cleared, masked and read (R151 to R153, R160, R161) -/

theorem clearNamed_eq (time now : Nat) (f : Filtered) : f.clearNamed time now =
    if f.state = .latched then
      (if f.level = true ∧ time ≠ 0 then { f with state := .pending, due := some (now + time * 100) }
      else { f with state := .clear, due := none })
    else f := by
  unfold Filtered.clearNamed Filtered.appear filterDue
  cases state : f.state with
  | latched => by_cases level : f.level = true <;> by_cases zero : time = 0 <;> simp [level, zero]
  | clear | pending => rfl

theorem clearFlags_get (m : Monitor) (w : BitVec 34) (now : CellTime) (i : FilteredId) :
    (m.clearFlags w now).flags.get i =
      if w.getLsbD (flagNumber i) then (m.flags.get i).clearNamed (m.times.get i.kind) now else m.flags.get i :=
  FilteredFlags.get_mapIds _ _ i

/-- The first 21 reports are those of the filtered flags. -/
theorem reports_filtered (m : Monitor) (i : FilteredId) : m.reports.getD (flagNumber i) 0 = m.filteredReport i := by
  have inside : flagNumber i < (filteredIds.map m.filteredReport).length := by
    obtain ⟨h, _⟩ := List.getElem?_eq_some_iff.mp (filteredIds_get i)
    rwa [List.length_map]
  rw [Monitor.reports]
  simp only [List.append_assoc]
  rw [List.getD_append _ _ _ _ inside, List.getD_eq_getElem?_getD, List.getElem?_map, filteredIds_get]
  rfl

/-- An alert that FLAGS CLEAR names is reported from its cleared latch. -/
theorem reports_alert (m : Monitor) (w : BitVec 34) (now : CellTime) (k : Nat) (low : 23 ≤ k) (high : k < 34)
    (latched : k ≠ 32) :
    ∃ held, (m.clearFlags w now).reports.getD k 0 = latchReport (clearAlert (w.getLsbD k) held) := by
  obtain below | rfl : k < 32 ∨ k = 33 := by omega
  · interval_cases k <;> exact ⟨_, rfl⟩
  · exact ⟨_, rfl⟩

theorem reportBytes_length (w : BitVec 34) (rs : List Nat) : ∀ i, (reportBytes w i rs).length = rs.length := by
  induction rs with
  | nil => exact fun _ => rfl
  | cons r rs ih => exact fun i => congrArg Nat.succ (ih (i + 1))

theorem reportBytes_getD (w : BitVec 34) (rs : List Nat) : ∀ i k, k < rs.length →
    (reportBytes w i rs).getD k 0#8 = if w.getLsbD (i + k) then BitVec.ofNat 8 (rs.getD k 0) else 0xFF#8 := by
  induction rs with
  | nil => exact fun i k inside => absurd inside (Nat.not_lt_zero k)
  | cons r rs ih =>
    intro i k inside
    cases k with
    | zero => rfl
    | succ k =>
      rw [reportBytes, List.getD_cons_succ, List.getD_cons_succ, ih (i + 1) k (Nat.lt_of_succ_lt_succ inside),
        Nat.add_right_comm i 1 k, Nat.add_assoc]

/-- FLAGS CLEAR's reply after the request has left the monitor `m`. -/
def clearBody (w : BitVec 34) (m : Monitor) : List Byte := reportBytes w 0 m.reports ++ [flagByte m.estopIn, 0#8]

theorem clearBody_length (w : BitVec 34) (m : Monitor) : (clearBody w m).length = 36 := by
  rw [clearBody, List.length_append, reportBytes_length]
  rfl

theorem clearBody_getD (w : BitVec 34) (m : Monitor) (k : Nat) (hk : k < 34) :
    (clearBody w m).getD k 0#8 = if w.getLsbD k then BitVec.ofNat 8 (m.reports.getD k 0) else 0xFF#8 := by
  have inside : k < (reportBytes w 0 m.reports).length := hk.trans_eq (reportBytes_length w m.reports 0).symm
  rw [clearBody, List.getD_append _ _ _ _ inside, reportBytes_getD w m.reports 0 k hk, Nat.zero_add]

theorem clearBody_named (w : BitVec 34) (m : Monitor) {k : Nat} (hk : k < 34) (named : w.getLsbD k = true) :
    (clearBody w m).getD k 0#8 = BitVec.ofNat 8 (m.reports.getD k 0) :=
  (clearBody_getD w m k hk).trans (if_pos named)

theorem clearBody_unnamed (w : BitVec 34) (m : Monitor) {k : Nat} (hk : k < 34) (unnamed : w.getLsbD k = false) :
    (clearBody w m).getD k 0#8 = 0xFF#8 :=
  (clearBody_getD w m k hk).trans (if_neg (by rw [unnamed]; exact Bool.false_ne_true))

theorem clearBody_drop (w : BitVec 34) (m : Monitor) : (clearBody w m).drop 34 = [flagByte m.estopIn, 0#8] :=
  List.drop_left' (reportBytes_length w m.reports 0)

theorem flagNumber_lt (i : FilteredId) : flagNumber i < 21 := (List.getElem?_eq_some_iff.mp (filteredIds_get i)).1

theorem expiryBytes_eq (f : Filtered) :
    f.expiryBytes = if f.state = .pending then le 6 (f.due.getD 0) else zeros 6 := by
  unfold Filtered.expiryBytes
  cases f.state with
  | clear | pending | latched => rfl

/-- Settles O51. -/
theorem flagsClearMaskAndRead : Obligations.FlagsClearMaskAndRead := by
  intro s tag w hp a keeps
  refine ⟨⟨(s.mon.clearFlags w s.clock).flags, clearBody w (s.mon.clearFlags w s.clock), ?_⟩, ?_, ?_⟩
  · intro m
    have cleared : m = s.mon.clearFlags w s.clock := rfl
    clear_value m
    subst cleared
    refine ⟨?_, fun i => ?_, clearBody_length w _, fun k hk => clearBody_unnamed w _ hk, fun i named => ?_,
      fun named => ?_, fun named => ?_, fun k low high forced named => ?_, fun named => ?_, clearBody_drop w _⟩
    · refine exec_taken .flagsClear tag hp rfl (by decide) (s.withMon (s.mon.clearFlags w s.clock)) ?_ rfl rfl
      simp only [perform, reqFlagsClear, flagSetBody_form, clearBody, List.append_assoc]
      rfl
    · intro f
      rw [clearFlags_get, clearNamed_eq, ← ite_and]
    · rw [clearBody_named w _ ((flagNumber_lt i).trans (by decide)) named, reports_filtered, Monitor.filteredReport]
      cases ((s.mon.clearFlags w s.clock).flags.get i).state with
      | clear => cases (s.mon.clearFlags w s.clock).filteredSet i <;> rfl
      | pending | latched => rfl
    · rw [clearBody_named w _ (by decide) named]
      exact apply_ite (BitVec.ofNat 8) _ _ _
    · rw [clearBody_named w _ (by decide) named]
      exact apply_ite (BitVec.ofNat 8) _ _ _
    · obtain ⟨held, report⟩ := reports_alert s.mon w s.clock k low high forced
      rw [clearBody_named w _ high named, report, named, clearAlert, Bool.not_true, Bool.and_false]
      rfl
    · rw [clearBody_named w _ (by decide) named]
      exact apply_ite (BitVec.ofNat 8) _ _ _
  · refine exec_taken .noticeMask tag hp rfl (by decide) (s.withMon { s.mon with noticeMask := w }) ?_ rfl rfl
    simp only [perform, reqNoticeMask, flagSetBody_form]
    rfl
  · refine exec_taken .flagsRead tag hp rfl (by decide) s ?_ rfl rfl
    simp only [perform, reqFlagsRead, flagsReadBody, expiryBytes_eq]
    simp only [PerKind.toList, List.flatMap_cons, List.flatMap_nil, List.append_nil, List.append_assoc]
    rfl

end Sys2Proof.Machine
end

section
/-! SUPPORT. The statements on the pure functions of a control period: the reference and the errors, the corrections of an
AVERAGED group, the road-load force and the demands (R86 to R100). -/

set_option Elab.async false

namespace Sys2Proof.Machine

/-! ## Reference, errors and sync error (R86 to R90, R100) -/

theorem hold64_eq_clamp64 (v : Int) : hold64 v = clamp64 v := hold_eq_max_min _ _ v (by decide)

theorem holdU32_eq_min (v : Nat) : holdU32 v = min v 4294967295 := by
  unfold holdU32
  split <;> omega

theorem readings_eq_map_zip (s : State) : ∀ (ms : List Member) (os : List Int), ms.length = os.length →
    readings s ms os = (ms.zip os).map fun x =>
      { station := x.1.station, share := x.1.share, rel := (s.units.get x.1.station).travel - x.2,
        speed := (s.units.get x.1.station).speed, mass := (s.cal.records.get x.1.station).mass,
        ceiling := (s.links.get x.1.station).ceiling.getD 0 }
  | [], _, _ => rfl
  | m :: ms, o :: os, same => by
    rw [readings, List.tail_cons, readings_eq_map_zip s ms os (Nat.succ.inj same)]
    rfl

theorem errors_eq (r : Reading) (refPos refSpeed : Int) :
    r.errors refPos refSpeed = { pos := clamp64 (refPos - r.rel), spd := clamp32 (refSpeed - r.speed) } := by
  rw [Reading.errors, hold64_eq_clamp64, hold32_eq_clamp32]

/-- The largest magnitude, as the greatest of the list of magnitudes. -/
theorem largest_map {α : Type} (f : α → Int) (xs : List α) :
    largest (xs.map f) = (xs.map fun x => (f x).natAbs).foldl max 0 := by
  rw [largest, List.foldl_map, List.foldl_map]

theorem largest_eq (xs : List Int) : largest xs = (xs.map Int.natAbs).foldl max 0 := List.foldl_map.symm

/-- Settles O38. -/
theorem referenceErrorsAndSyncError : Obligations.ReferenceErrorsAndSyncError := by
  refine ⟨readings_eq_map_zip, fun r fs => ⟨hold32_eq_clamp32 _, ?_⟩, fun rs _ => ⟨?_, ?_⟩,
    fun k rs => ⟨?_, ?_⟩⟩
  · simp only [periodBase, memberErrors, referencePosition, referenceSpeed, List.map_cons, List.headD_cons, errors_eq,
      hold64_eq_clamp64, hold32_eq_clamp32]
  · simp only [periodBase, referenceSpeed, List.length_map, hold32_eq_clamp32]
  · simp only [periodBase, memberErrors, referencePosition, referenceSpeed, List.length_map, errors_eq,
      hold64_eq_clamp64, hold32_eq_clamp32]
  · simp only [periodBase, holdU32_eq_min, largest_map]
  · simp only [periodBase, holdU32_eq_min, largest_map]

/-! ## The corrections of an AVERAGED group (R93) -/

theorem le_largest {xs : List Int} {x : Int} (h : x ∈ xs) : x.natAbs ≤ largest xs := by
  rw [largest_eq, List.foldl_eq_foldr]
  exact List.le_max_of_le' 0 (List.mem_map_of_mem (f := Int.natAbs) h) le_rfl

/-- A value scaled by `limit` over a magnitude at least its own stays within the limit. -/
theorem natAbs_tdiv_le_limit {x : Int} {m : Nat} (limit : Nat) (h : x.natAbs ≤ m) :
    (Int.tdiv (x * limit) m).natAbs ≤ limit := by
  rw [Int.natAbs_tdiv, Int.natAbs_mul, Int.natAbs_natCast, Int.natAbs_natCast]
  exact Nat.div_le_of_le_mul (Nat.mul_le_mul_right limit h)

/-- Values scaled one by one lose together less than one unit each against the scaled sum. -/
theorem scaledSum_error (limit m : Nat) (hm : 0 < m) (xs : List Int) :
    (xs.sum * limit - m * (xs.map fun x => Int.tdiv (x * limit) m).sum).natAbs ≤ (m - 1) * xs.length := by
  induction xs with
  | nil => simp
  | cons x xs ih =>
    have one : (x * limit - m * Int.tdiv (x * limit) m).natAbs ≤ m - 1 := by
      rw [← Int.tmod_def, Int.natAbs_tmod, Int.natAbs_natCast]
      exact Nat.le_sub_one_of_lt (Nat.mod_lt _ hm)
    rw [List.map_cons, List.sum_cons, List.sum_cons, List.length_cons, add_mul, mul_add, Nat.mul_succ]
    omega

/-- The last correction of a scaled group, which brings the sum to zero, is beyond the limit by less than the number of
the other members. -/
theorem scaledSum_le (limit m : Nat) (xs : List Int) (hm : 0 < m) (some_ : xs ≠ []) (h : xs.sum.natAbs ≤ m) :
    (xs.map fun x => Int.tdiv (x * limit) m).sum.natAbs ≤ limit + (xs.length - 1) := by
  have error := scaledSum_error limit m hm xs
  have scaled : (xs.sum * limit).natAbs ≤ m * limit := by
    rw [Int.natAbs_mul, Int.natAbs_natCast]
    exact Nat.mul_le_mul_right limit h
  generalize (xs.map fun x => Int.tdiv (x * limit) m).sum = total at error ⊢
  have one := List.length_pos_iff.2 some_
  have bound : (m * total).natAbs ≤ m * limit + (m - 1) * xs.length := by omega
  rw [Int.natAbs_mul, Int.natAbs_natCast] at bound
  have strict : (m - 1) * xs.length < m * xs.length := Nat.mul_lt_mul_of_pos_right (by omega) one
  have below : total.natAbs < limit + xs.length := by
    refine Nat.lt_of_mul_lt_mul_left (a := m) ?_
    rw [Nat.mul_add]
    omega
  omega

/-- Settles O40. -/
theorem averagedCorrectionsSumToZero : Obligations.AveragedCorrectionsSumToZero := by
  intro t p q es two raws formed m scaled c
  have raws_eq : es.dropLast.map (rawCorrection t (p, q)) = raws :=
    List.map_congr_left fun x _ => rawCorrection_eq t p q x
  have formed_eq : withRemainder raws 0 = formed := by simp only [withRemainder, zero_sub, formed]
  have m_eq : largest formed = m := largest_eq formed
  have dropped : formed.dropLast = raws := List.dropLast_concat
  have count : raws.length = es.length - 1 := by simp only [raws, List.length_map, List.length_dropLast]
  have within : ∀ x ∈ formed, x.natAbs ≤ m := fun x hx => m_eq ▸ le_largest hx
  have c_eq : c = if m ≤ t.correctionLimit then { values := formed, scaled := false, limited := false }
      else { values := scaled ++ [-scaled.sum], scaled := true, limited := false } := by
    simp only [c, corrections, averagedCorrections, raws_eq, formed_eq, m_eq, dropped]
    rw [withRemainder, zero_sub]
  clear_value c
  by_cases small : m ≤ t.correctionLimit
  · rw [if_pos small] at c_eq
    subst c_eq
    refine ⟨?_, ?_, rfl, fun _ => ⟨rfl, rfl⟩, fun large => absurd small (by omega), fun x hx => ?_, fun x hx => ?_⟩
    · simp [formed]
    · simp only [formed, List.length_append, count, List.length_singleton]; omega
    · exact (within x (List.mem_of_mem_dropLast hx)).trans small
    · exact (within x hx).trans (small.trans (Nat.le_add_right _ _))
  · rw [if_neg small] at c_eq
    subst c_eq
    have part : ∀ x ∈ scaled, x.natAbs ≤ t.correctionLimit := by
      intro x hx
      obtain ⟨y, hy, rfl⟩ := List.mem_map.1 hx
      exact natAbs_tdiv_le_limit _ (within y (List.mem_append_left _ hy))
    have last : scaled.sum.natAbs ≤ t.correctionLimit + (raws.length - 1) := by
      refine scaledSum_le t.correctionLimit m raws (by omega) (List.ne_nil_of_length_pos (by omega)) ?_
      rw [← Int.natAbs_neg]
      exact within _ (List.mem_append_right _ (List.mem_singleton_self _))
    refine ⟨?_, ?_, rfl, fun large => absurd large small, fun _ => ⟨rfl, rfl⟩, fun x hx => ?_, fun x hx => ?_⟩
    · simp
    · simp only [scaled, List.length_append, List.length_map, count, List.length_singleton]; omega
    · rw [List.dropLast_concat] at hx
      exact part x hx
    · rcases List.mem_append.1 hx with hx | hx
      · exact (part x hx).trans (Nat.le_add_right _ _)
      · rw [List.mem_singleton.1 hx, Int.natAbs_neg]
        omega

/-! ## The road-load force (R94, R96) -/

/-- Rounding the quotient toward zero is the division that truncates. -/
theorem whole_div (n d : Int) (hd : 0 < d) :
    (if 0 ≤ (n : ℚ) / d then ⌊(n : ℚ) / d⌋ else ⌈(n : ℚ) / d⌉) = Int.tdiv n d := by
  obtain ⟨d, rfl⟩ := Int.eq_ofNat_of_zero_le hd.le
  have pos : (0 : ℚ) < ((d : Int) : ℚ) := Int.cast_pos.2 hd
  have sign : 0 ≤ (n : ℚ) / ((d : Int) : ℚ) ↔ 0 ≤ n := by rw [le_div_iff₀ pos, zero_mul, Int.cast_nonneg_iff]
  rw [Int.cast_natCast] at sign ⊢
  by_cases hn : 0 ≤ n
  · rw [if_pos (sign.2 hn), Rat.floor_intCast_div_natCast, Int.tdiv_eq_ediv_of_nonneg hn]
  · rw [if_neg (sign.not.2 hn), Rat.ceil_intCast_div_natCast, ← Int.tdiv_eq_ediv_of_nonneg (by omega),
      Int.neg_tdiv, neg_neg]

/-- Settles O41: the quotient of the statement is the model's numerator over its common denominator. -/
theorem roadLoadForceIsTheRoundedSum : Obligations.RoadLoadForceIsTheRoundedSum := by
  intro k v dv mass period p q hperiod hq whole sum
  have rounded (x : ℚ) (n d : Int) (hd : 0 < d) (h : x = (n : ℚ) / d) : clamp32 (whole x) = hold32 (Int.tdiv n d) := by
    rw [hold32_eq_clamp32, h]
    exact congrArg clamp32 (whole_div n d hd)
  have hT : (period : ℚ) ≠ 0 := by positivity
  have hQ : (q : ℚ) ≠ 0 := by positivity
  constructor
  · refine (rounded _ _ _ (by positivity) ?_).symm
    simp only [sum]
    push_cast
    field_simp
    ring
  · refine (rounded _ _ _ (by positivity) ?_).symm
    push_cast
    ring

/-! ## Demands (R91, R95 to R98) -/

theorem demandOf_eq (share correction : Int) (ceiling : Nat) :
    demandOf share correction ceiling = max (-(ceiling : Int)) (min (ceiling : Int) (share + correction)) :=
  hold_eq_max_min _ _ _ (by omega)

theorem demands_fst : ∀ (ss cs : List Int) (ls : List Nat),
    (demands ss cs ls).1 = (ss.zip (cs.zip ls)).map fun x => max (-(x.2.2 : Int)) (min (x.2.2 : Int) (x.1 + x.2.1))
  | [], _, _ => rfl
  | _ :: _, [], _ => rfl
  | _ :: _, _ :: _, [] => rfl
  | s :: ss, c :: cs, l :: ls => by
    rw [demands, demandOf_eq, demands_fst ss cs ls]
    rfl

theorem demands_snd : ∀ (ss cs : List Int) (ls : List Nat),
    (demands ss cs ls).2 = true ↔ ∃ x ∈ ss.zip (cs.zip ls), x.2.2 < (x.1 + x.2.1).natAbs
  | [], _, _ => by simp [demands]
  | _ :: _, [], _ => by simp [demands]
  | _ :: _, _ :: _, [] => by simp [demands]
  | s :: ss, c :: cs, l :: ls => by
    simp [demands, demands_snd ss cs ls]

/-- Settles O43. -/
theorem demandsStayWithinTheirCeilings : Obligations.DemandsStayWithinTheirCeilings :=
  ⟨fun ss cs ls _ _ => ⟨demands_fst ss cs ls, demands_snd ss cs ls⟩, fun _ _ _ _ applied _ _ => by
    cases applied <;> exact ⟨rfl, rfl, rfl, rfl, rfl⟩⟩

end Sys2Proof.Machine
end

section
/-! SUPPORT. The message port and the other blocks: requests and the end of an event neither read nor change the input
queue; the statement on the frames that wait (R182, R183). -/

set_option Elab.async false

namespace Sys2Proof.Machine

/-! ## The end of an event leaves the port alone -/

theorem writeClosed_withPort (g : GroupId) (k : ExcKind) (at_ : CellTime) (oc : ExcOutcome) (s : State) (p : Port) :
    writeClosed g k at_ oc (s.withPort p) = ((writeClosed g k at_ oc s).1.withPort p, (writeClosed g k at_ oc s).2) :=
  congrArg (·, some _) (logRecord_withPort _ (s.withExc { s.exc with counter := s.exc.counter + 1#16 }) p)

theorem tripRecord_withPort (g : GroupId) (s : State) (p : Port) :
    tripRecord g (s.withPort p) = ((tripRecord g s).1.withPort p, (tripRecord g s).2) := by
  unfold tripRecord
  rw [State.withPort_groups]
  cases (s.groups.get g).openSlip with
  | some o => exact closeExcursion_withPort g .tripped s p
  | none =>
    cases (s.groups.get g).state with
    | locked | engaging => exact writeClosed_withPort g .trip s.clock .tripped s p
    | undefined | free | slipping | held | tripped => rfl

theorem tripGroup_withPort (g : GroupId) (s : State) (p : Port) :
    tripGroup g (s.withPort p) = (tripGroup g s).withPort p := by
  unfold tripGroup
  rw [State.withPort_groups, apply_ite (State.withPort · p)]
  refine if_congr Iff.rfl ?_ rfl
  rw [tripRecord_withPort]
  generalize tripRecord g s = x
  obtain ⟨t, r⟩ := x
  exact windowCause_withPort g r (some .tripped) (((postZero g t).withGroup g
    { (postZero g t).groups.get g with
      state := .tripped, periodDue := none, engageDue := none, sync := false }).withRing g
        { t.rings.get g with frozen := true }) p

theorem tripEvent_withPort (s : State) (p : Port) : tripEvent (s.withPort p) = (tripEvent s).withPort p := by
  have groups (gs : List GroupId) : ∀ t : State,
      gs.foldl (fun t g => tripGroup g t) (t.withPort p) = (gs.foldl (fun t g => tripGroup g t) t).withPort p := by
    induction gs with
    | nil => exact fun _ => rfl
    | cons g gs ih =>
      intro t
      rw [List.foldl_cons, List.foldl_cons, tripGroup_withPort, ih]
  exact groups allFour ((s.withMon { s.mon with tripCount := satInc s.mon.tripCount }).withPermit
    { s.permit with mask := 0#4, due := none })

theorem handConditions_withPort (s : State) (p : Port) :
    handConditions (s.withPort p) = (handConditions s).withPort p := by
  have levels : (s.withPort p).condition = s.condition := funext fun i => condition_withPort s p i
  rw [handConditions, levels]
  rfl

theorem settle_withPort (s : State) (p : Port) : settle (s.withPort p) = (settle s).withPort p := by
  unfold settle
  simp only [handConditions_withPort, tripEvent_withPort, apply_ite (State.withPort · p)]
  rfl

/-! ## Requests leave the port alone -/

/-- The outcome of an examination with another port. -/
def otherPort (p : Port) (x : State × Reply) : State × Reply := (x.1.withPort p, x.2)

theorem otherPort_mk (p : Port) (s : State) (r : Reply) : otherPort p (s, r) = (s.withPort p, r) := rfl

theorem moveLink_withPort (n : Station) (h : Link → Link) (s : State) (p : Port) :
    moveLink n h (s.withPort p) = (moveLink n h s).withPort p := by
  simp only [moveLink, apply_ite (State.withPort · p), ← claimStation_withPort]
  rfl

theorem placeSegment_withPort (seg : Segment) (s : State) (p : Port) :
    placeSegment seg (s.withPort p)
      = ((placeSegment seg s).1.withPort p, (placeSegment seg s).2) := by
  unfold placeSegment
  rw [show (s.withPort p).mark = s.mark from rfl]
  have resolved (q : RoadQueue) (due : CellTime) :
      (if due ≤ s.clock then (runActivations ((s.withPort p).withRoad q), 2) else ((s.withPort p).withRoad q, 0))
        = ((if due ≤ s.clock then (runActivations (s.withRoad q), 2) else (s.withRoad q, 0)).1.withPort p,
            (if due ≤ s.clock then (runActivations (s.withRoad q), 2) else (s.withRoad q, 0)).2) := by
    by_cases h : due ≤ s.clock <;> simp only [h, if_true, if_false] <;> rfl
  cases seg.basis with
  | absolute => exact resolved _ _
  | mark =>
    cases s.mark.valid with
    | false => rfl
    | true =>
      cases s.mark.time with
      | none => rfl
      | some m => exact resolved _ _

theorem disbandWindow_withPort (g : GroupId) (s : State) (p : Port) :
    disbandWindow g (s.withPort p) = (disbandWindow g s).withPort p := by
  unfold disbandWindow
  simp only [windowCause_withPort, State.withPort_windows]
  cases ((windowCause g none (some .disband) s).windows.get g).state <;> rfl

theorem disbandGroup_withPort (g : GroupId) (s : State) (p : Port) :
    disbandGroup g (s.withPort p) = (disbandGroup g s).withPort p :=
  disbandWindow_withPort g (disbandSchedule g ((postZero g s).withGroup g { (postZero g s).groups.get g with
    state := .undefined, defn := none, periodDue := none, engageDue := none, sync := false })) p

theorem startGroup_withPort (g : GroupId) (d : GroupDef) (s : State) (p : Port) :
    startGroup g d (s.withPort p) = (startGroup g d s).withPort p := by
  unfold startGroup
  simp only [apply_ite (State.withPort · p)]
  rfl

/-- A request other than PORT COUNTERS and RESET PREPARE neither reads nor changes the port. -/
theorem perform_withPort (k : ReqKind) (held : Bool) (body : List Byte) (s : State) (p : Port)
    (hk : Block.port ∉ requestBlocks k) :
    perform k held body (s.withPort p) = otherPort p (perform k held body s) := by
  cases k with
  | portCounters | resetPrepare => exact absurd (by decide) hk
  | clockRead | markArm | markRead | calState | permitRead | flagsRead | scheduleRead | cellStatus => rfl
  | encoderRead | encoderCounters | linkStatus | linkCounters | calRead | capabilityRead | stationRead | groupRead
  | segmentFlush | segmentCancel | permitTime | filterSet | sourceEnable | flagsClear | forceSet | noticeMask
  | excursionFetch | windowRead | ringRead | ringFreeze | ringUnfreeze =>
    simp only [perform, reqEncoderRead, reqEncoderCounters, reqLinkStatus, reqLinkCounters, reqCalRead,
      reqCapabilityRead, reqStationRead, reqGroupRead, reqSegmentFlush, reqSegmentCancel, reqPermitTime, reqFilterSet,
      reqSourceEnable, reqFlagsClear, reqForceSet, reqNoticeMask, reqExcursionFetch, reqWindowRead, reqRingRead,
      reqRingFreeze, reqRingUnfreeze]
    split <;> rfl
  | calWrite | calLock | stationSet | groupDefine | windowOpen | permitRenew =>
    simp only [perform, reqCalWrite, reqCalLock, reqStationSet, reqGroupDefine, reqWindowOpen, reqPermitRenew]
    split
    · rfl
    · simp only [apply_ite (otherPort p)]
      rfl
  | resetExecute =>
    simp only [perform, reqResetExecute, apply_ite (otherPort p)]
    rfl
  | linkEnable =>
    simp only [perform, reqLinkEnable]
    split
    · rfl
    · next n v _ =>
      cases v with
      | false => exact congrArg (·, okReply []) (moveLink_withPort n Link.toOff (s.withSettings n _) p)
      | true =>
        simp only [if_true, otherPort_mk, apply_ite (State.withPort · p)]
        rfl
  | disband =>
    simp only [perform, reqDisband]
    split
    · rfl
    · simp only [apply_ite (otherPort p)]
      exact if_congr Iff.rfl (congrArg (·, okReply []) (disbandGroup_withPort _ s p)) rfl
  | linkRestart =>
    simp only [perform, reqLinkRestart]
    split
    · rfl
    · simp only [apply_ite (otherPort p), otherPort_mk, ← moveLink_withPort]
      rfl
  | segmentQueue =>
    simp only [perform, reqSegmentQueue]
    split
    · rfl
    · simp only [apply_ite (otherPort p), otherPort_mk, placeSegment_withPort]
      rfl
  | permitGrant =>
    simp only [perform, reqPermitGrant]
    split
    · rfl
    · simp only [apply_ite (otherPort p), otherPort_mk, ← claimRemoved_withPort]
      rfl
  | groupTune =>
    simp only [perform, reqGroupTune]
    split
    · rfl
    · next g t _ =>
      simp only [State.withPort_groups]
      cases (s.groups.get g).defn <;> cases (s.groups.get g).state <;> rfl
  | engage =>
    simp only [perform, reqEngage]
    split
    · rfl
    · next g _ =>
      have examined (d : GroupDef) : engageRefusal d (s.withPort p) = engageRefusal d s := rfl
      simp only [State.withPort_groups, examined, startGroup_withPort]
      split
      · next d _ _ => cases engageRefusal d s <;> rfl
      · next d _ _ => cases engageRefusal d s <;> rfl
      · rfl
  | release =>
    simp only [perform, reqRelease]
    split
    · rfl
    · next g _ =>
      simp only [State.withPort_groups, State.withPort_mon, releaseGroup_withPort]
      cases (s.groups.get g).state with
      | tripped => cases s.mon.tripOut <;> rfl
      | engaging | locked | slipping | held | free | undefined => rfl
  | windowClose =>
    simp only [perform, reqWindowClose]
    split
    · rfl
    · next g _ =>
      rw [show (s.withPort p).windows = s.windows from rfl]
      cases (s.windows.get g).state <;> rfl

/-! ## Another input queue (R182, R183) -/

/-- The state with another input queue. -/
def State.withQueue (s : State) (q : List Frame) : State := s.withPort { s.port with queue := q }

/-- No request reads or changes the input queue. -/
theorem perform_withQueue (k : ReqKind) (held : Bool) (body : List Byte) (s : State) (q : List Frame) :
    perform k held body (s.withQueue q) = ((perform k held body s).1.withQueue q, (perform k held body s).2) := by
  by_cases hk : Block.port ∈ requestBlocks k
  · obtain rfl | rfl : k = .portCounters ∨ k = .resetPrepare := by
      revert hk
      cases k <;> decide
    · rfl
    · by_cases empty : s.permit.mask = 0#4
      · simp only [perform, reqResetPrepare, State.withQueue, State.withPort_permit, empty, if_true]
        rfl
      · simp only [perform, reqResetPrepare, State.withQueue, State.withPort_permit, empty, if_false]
  · have same : (perform k held body s).1.port = s.port := sameBut_perform s body k held .port hk
    rw [State.withQueue, perform_withPort k held body s _ hk, State.withQueue, same]
    rfl

theorem examine_withQueue (f : Frame) (held : Bool) (s : State) (q : List Frame) :
    examine f held (s.withQueue q) = ((examine f held s).1.withQueue q, (examine f held s).2) := by
  unfold examine
  cases ReqKind.ofCode f.code with
  | none => rfl
  | some k =>
    by_cases h : f.body.length = k.bodyLength
    · simp only [h, if_true, perform_withQueue]
    · simp only [h, if_false]

/-- The taking of a request neither reads nor changes the input queue. -/
theorem takeRequest_withQueue (f : Frame) (s : State) (q : List Frame) :
    takeRequest f (s.withQueue q) = (takeRequest f s).withQueue q := by
  have examined : examine f s.port.prepared (s.withQueue q).taking
      = ((examine f s.port.prepared s.taking).1.withQueue q, (examine f s.port.prepared s.taking).2) :=
    examine_withQueue f s.port.prepared s.taking q
  calc takeRequest f (s.withQueue q)
      = startReply f (ordersReset f (examine f s.port.prepared (s.withQueue q).taking).2)
          (examine f s.port.prepared (s.withQueue q).taking).2
          (examine f s.port.prepared (s.withQueue q).taking).1 := rfl
    _ = (takeRequest f s).withQueue q := by
        rw [examined]
        rfl

theorem settle_withQueue (s : State) (q : List Frame) : settle (s.withQueue q) = (settle s).withQueue q := by
  rw [State.withQueue, settle_withPort, State.withQueue, settle_port]

/-! ## Frames that wait (R182, R183) -/

/-- A settled state with another port is settled. -/
theorem settle_withPort_settled {s : State} (hs : Settled s) (p : Port) : settle (s.withPort p) = s.withPort p := by
  rw [settle_withPort, settle_settled s hs]

theorem effect_replySent {s : State} {x : Sending} (tx : s.port.tx = some x) (due : x.due ≤ s.clock)
    (keeps : x.thenReset = false) : effect .replySent s = takeNext (s.withPort { s.port with tx := none }) := by
  have done : s.port.replyDone s.clock = true := by simp [Port.replyDone, tx, dueAt, due]
  have unordered : s.port.resetOrdered = false := by simp only [Port.resetOrdered, tx, keeps]
  simp only [effect, done, if_true, endReply, unordered, Bool.false_eq_true, if_false]

theorem takeNext_head {s : State} {f : Frame} {rest : List Frame} (tx : s.port.tx = none)
    (queue : s.port.queue = f :: rest) : takeNext s = takeRequest f (s.withQueue rest) := by
  unfold takeNext
  split
  · next head =>
    obtain ⟨rfl, rfl⟩ := List.cons.inj (queue.symm.trans head)
    rfl
  · next waits => exact absurd queue (waits f rest tx)

/-- Settles O57. -/
theorem framesWaitAndAreTakenInOrder : Obligations.FramesWaitAndAreTakenInOrder := by
  intro s hs
  refine ⟨fun i f x frame tx => ⟨fun room => ?_, fun full => ?_⟩, fun x tx due keeps => ⟨fun empty => ?_,
    fun f rest i queue frame => ?_⟩⟩
  · rw [exec_frame i f s frame, acceptFrame_busy f s (by rw [tx]; rfl) room]
    exact congrArg _ (settle_withPort_settled hs _)
  · have no_room : ¬ s.port.queue.length < Config.inputQueueCapacity := Nat.not_lt.2 full
    rw [exec_frame i f s frame, acceptFrame, if_neg no_room, satInc_eq_oneMore]
    exact congrArg _ (settle_withPort_settled hs _)
  · have idle : takeNext (s.withPort { s.port with tx := none }) = s.withPort { s.port with tx := none } := by
      simp only [takeNext, State.withPort_port, empty]
    rw [exec_effect, effect_replySent tx due keeps, idle]
    exact congrArg _ (settle_withPort_settled hs _)
  · have idle : PortIdle (s.withPort { s.port with tx := none, queue := [] }) := ⟨rfl, rfl⟩
    refine ⟨settle (takeRequest f (s.withPort { s.port with tx := none, queue := [] })), 
      settle (effect .replySent s), ?_, exec_effect .replySent s, ?_⟩
    · rw [exec_frame i f _ frame]
      exact congrArg done (acceptFrame_idle f _ idle)
    · rw [effect_replySent tx due keeps, takeNext_head (s := s.withPort { s.port with tx := none }) rfl queue]
      calc settle (takeRequest f ((s.withPort { s.port with tx := none }).withQueue rest))
          = settle (takeRequest f ((s.withPort { s.port with tx := none, queue := [] }).withQueue rest)) := rfl
        _ = (settle (takeRequest f (s.withPort { s.port with tx := none, queue := [] }))).withQueue rest := by
            rw [takeRequest_withQueue, settle_withQueue]

end Sys2Proof.Machine
end

section
/-! SUPPORT. The receiver (R179 to R182): one byte in each of its states, and the statement on assembled frames. -/

set_option Elab.async false

namespace Sys2Proof.Machine

theorem receiveByte_hunting (b : Byte) (e : Bool) {s : State} (rx : s.port.rx = .hunting) :
    receiveByte b e s = if !e && b == Config.syncByte then startFrame s else s := by
  simp only [receiveByte, rx]

section Assembling

variable {s : State} {bytes : List Byte} (rx : s.port.rx = .assembling bytes) (b : Byte)
include rx

theorem receiveByte_lineError : receiveByte b true s = s.withPort s.port.abandon := by
  simp only [receiveByte, rx, if_true]

theorem receiveByte_assembling : receiveByte b false s =
    if Config.maxBody < lenOf (bytes ++ [b]) then s.withPort s.port.abandon
    else if frameComplete (bytes ++ [b]) then judgeFrame (bytes ++ [b]) s
    else s.withPort { s.port with rx := .assembling (bytes ++ [b]), gapDue := some (s.clock + Config.gapTime) } := by
  simp only [receiveByte, rx, Bool.false_eq_true, if_false]

/-- The receiver waits for the second CHECK byte exactly where the next byte completes the frame: LEN has been received
then. -/
theorem awaitsLast_assembling : s.port.awaitsLast = frameComplete (bytes ++ [b]) := by
  simp only [Port.awaitsLast, rx, frameComplete, lenOf, byteAt]
  cases bytes with
  | nil => simp
  | cons len rest => simp

end Assembling

theorem abandon_eq (p : Port) :
    p.abandon = { p with rx := .hunting, gapDue := none, framingCount := oneMore p.framingCount } := by
  rw [Port.abandon, satInc_eq_oneMore]
  rfl

/-- A complete frame whose CHECK bytes do not match is counted and latches PORT_CHECK (R181). -/
theorem judgeFrame_failed {bytes : List Byte} (s : State)
    (check : bytes.drop (lenOf bytes + 3) ≠ checkBytes (bytes.take (lenOf bytes + 3))) :
    judgeFrame bytes s =
      { s with port := { s.port with rx := .hunting, gapDue := none, checkCount := oneMore s.port.checkCount },
               mon := { s.mon with alerts := { s.mon.alerts with portCheck := true } } } := by
  simp only [judgeFrame, check, if_false, satInc_eq_oneMore]
  rfl

/-- A complete frame whose CHECK bytes match is handed to the input queue (R182). -/
theorem judgeFrame_good {bytes : List Byte} (s : State)
    (check : bytes.drop (lenOf bytes + 3) = checkBytes (bytes.take (lenOf bytes + 3))) :
    judgeFrame bytes s = acceptFrame
      { tag := bytes.getD 1 0#8, code := bytes.getD 2 0#8, body := (bytes.drop 3).take (lenOf bytes) }
      (s.withPort s.port.hunt) :=
  if_pos check

/-- Settles O56. -/
theorem receiverAssemblesAndChecksFrames : Obligations.ReceiverAssemblesAndChecksFrames := by
  refine ⟨by decide +kernel, fun s hs => ?_⟩
  intro p hunting dropped failed
  have abandoned : done (s.withPort s.port.abandon) = .next dropped := by
    rw [abandon_eq]
    exact congrArg _ (settle_withPort_settled hs _)
  have unchanged : done s = .next s := congrArg _ (settle_settled s hs)
  have received (b : Byte) (e : Bool) : exec (.mpByteReceived b e) s = done (receiveByte b e s) := rfl
  have completed (b : Byte) :
      exec (.mpFrameComplete b) s = done (if s.port.awaitsLast then receiveByte b false s else s) := rfl
  refine ⟨fun rx => ⟨?_, fun b e other => ?_, fun b => ?_⟩, fun bytes rx => ⟨fun b => ?_, fun b => ?_⟩,
    fun reached => ?_⟩
  · rw [received, receiveByte_hunting _ _ rx]
    exact congrArg _ (settle_withPort_settled hs _)
  · have ignored : (!e && b == Config.syncByte) = false := by
      rcases other with other | rfl
      · have differs : (b == Config.syncByte) = false := beq_eq_false_iff_ne.2 other
        rw [differs, Bool.and_false]
      · rfl
    rw [received, receiveByte_hunting b e rx, ignored]
    exact unchanged
  · have waits : s.port.awaitsLast = false := by rw [Port.awaitsLast, show s.port.rx = .hunting from rx]
    rw [completed, waits]
    exact unchanged
  · rw [received, receiveByte_lineError rx b]
    exact abandoned
  · intro all len
    have last : s.port.awaitsLast = frameComplete all := awaitsLast_assembling rx b
    have step : receiveByte b false s =
        if 250 < len then s.withPort s.port.abandon
        else if frameComplete all then judgeFrame all s
        else s.withPort { s.port with rx := .assembling all, gapDue := some (s.clock + 2000) } :=
      receiveByte_assembling rx b
    have complete : frameComplete all = true ↔ all.length = len + 5 := beq_iff_eq
    have judged (short : len ≤ 250) (full : all.length = len + 5) :
        exec (.mpByteReceived b false) s = done (judgeFrame all s)
        ∧ exec (.mpFrameComplete b) s = done (judgeFrame all s) := by
      have run : receiveByte b false s = judgeFrame all s := by
        rw [step, if_neg (Nat.not_lt.2 short), if_pos (complete.2 full)]
      exact ⟨congrArg done run, by rw [completed, last, if_pos (complete.2 full), run]⟩
    refine ⟨fun long => ?_, fun short part => ?_, fun short full check => ?_, fun short full check i frame => ?_,
      fun short part => ?_⟩
    · rw [received, step, if_pos long]
      exact abandoned
    · rw [received, step, if_neg (Nat.not_lt.2 short), if_neg (complete.not.2 part)]
      exact congrArg _ (settle_withPort_settled hs _)
    · obtain ⟨byte, event⟩ := judged short full
      rw [byte, event, judgeFrame_failed s check]
      exact ⟨rfl, rfl⟩
    · obtain ⟨byte, event⟩ := judged short full
      rw [byte, event, judgeFrame_good s check]
      exact ⟨_, exec_frame i _ _ frame, rfl, rfl⟩
    · rw [completed, last, if_neg (complete.not.2 part)]
      exact unchanged
  · have run : effect .gapTimerExpiry s = s.withPort s.port.abandon := if_pos ((reached_iff s _).1 reached)
    rw [exec_effect, run]
    exact abandoned

end Sys2Proof.Machine
end

section
/-! SUPPORT. The end of a reset: what is handed to the monitor from the levels of that moment (R1, R162, R192), and the
statement on resets. -/

set_option Elab.async false

namespace Sys2Proof.Machine

/-! ## The trip event with no running group -/

theorem tripGroup_idle {g : GroupId} {s : State} (idle : (s.groups.get g).state.running = false) :
    tripGroup g s = s := by
  rw [tripGroup, idle]
  rfl

theorem tripEvent_idle {s : State} (idle : ∀ g, (s.groups.get g).state.running = false) : tripEvent s =
    (s.withMon { s.mon with tripCount := satInc s.mon.tripCount }).withPermit
      { s.permit with mask := 0#4, due := none } := by
  have unmoved (t : State) (still : ∀ g, (t.groups.get g).state.running = false) (gs : List GroupId) :
      gs.foldl (fun t g => tripGroup g t) t = t := by
    induction gs with
    | nil => rfl
    | cons g gs ih => rw [List.foldl_cons, tripGroup_idle (still g), ih]
  exact unmoved ((s.withMon { s.mon with tripCount := satInc s.mon.tripCount }).withPermit
    { s.permit with mask := 0#4, due := none }) idle allFour

/-! ## The monitor after a reset -/

/-- The monitor after a reset, the levels of that moment handed to it: a TRIP_IN that is asserted is PENDING, its filter
timer running. `count` is the number of trip events since. -/
def handedMonitor (alerts : Alerts) (tripIn estopIn : Bool) (count : Nat) : Monitor :=
  { Monitor.reset alerts tripIn estopIn with
    flags := { FilteredFlags.reset with
      tripIn := if tripIn then { state := .pending, due := some 5000, level := true } else Filtered.reset },
    tripCount := count }

/-- The monitor at the end of a reset: ESTOP's trip event is counted, and ATTN_OUT is asserted for the alert of the
reset. -/
def resetMonitor (powerOn tripIn estopIn : Bool) : Monitor :=
  { handedMonitor (onlyResetAlerts powerOn !powerOn) tripIn estopIn (if estopIn then 1 else 0) with
    tripOut := estopIn, attnOut := true }

theorem handAll_reset (alerts : Alerts) (tripIn estopIn : Bool) :
    (Monitor.reset alerts tripIn estopIn).handAll 0 (fun i => decide (i = .tripIn) && tripIn)
      = handedMonitor alerts tripIn estopIn 0 := by
  cases tripIn with
  | false => rfl
  | true =>
    have started : Filtered.reset.hand true 50 0 true = { state := .pending, due := some 5000, level := true } := by
      decide
    refine congrArg (fun f => { Monitor.reset alerts true estopIn with flags := f })
      (FilteredFlags.ext_get _ _ fun i => ?_)
    rw [FilteredFlags.get_mapIds]
    cases i with
    | overspeed n | encoder n | link n | mismatch n | sync n =>
      simp only [Monitor.reset, FilteredFlags.get, FilteredFlags.reset, Quad.get_fill]
      rfl
    | tripIn => exact started

theorem handAll_handed (alerts : Alerts) (tripIn estopIn : Bool) (count : Nat) :
    (handedMonitor alerts tripIn estopIn count).handAll 0 (fun i => decide (i = .tripIn) && tripIn)
      = handedMonitor alerts tripIn estopIn count := by
  refine Monitor.handAll_same _ _ _ fun i => ?_
  cases i with
  | overspeed n | encoder n | link n | mismatch n | sync n =>
    simp only [handedMonitor, FilteredFlags.get, FilteredFlags.reset, Quad.get_fill]
    rfl
  | tripIn => cases tripIn <;> rfl

theorem tripSet_handed (alerts : Alerts) (tripIn estopIn : Bool) (count : Nat) :
    (handedMonitor alerts tripIn estopIn count).tripSet = estopIn := by
  have clear (i : FilteredId) : (handedMonitor alerts tripIn estopIn count).filteredSet i = false := by
    cases i with
    | overspeed n | encoder n | link n | mismatch n | sync n =>
      simp only [Monitor.filteredSet, handedMonitor, FilteredFlags.get, FilteredFlags.reset, Quad.get_fill]
      rfl
    | tripIn => cases tripIn <;> rfl
  have none_set : filteredIds.any (handedMonitor alerts tripIn estopIn count).filteredSet = false :=
    List.any_eq_false.2 fun i _ => Bool.eq_false_iff.1 (clear i)
  rw [Monitor.tripSet, none_set]
  exact Bool.or_false estopIn

/-- The alert of the reset is enabled in the notice mask. -/
theorem attnLevel_handed (powerOn tripIn estopIn : Bool) (count : Nat) :
    (handedMonitor (onlyResetAlerts powerOn !powerOn) tripIn estopIn count).attnLevel = true := by
  refine (attnLevel_iff _).2 ?_
  cases powerOn with
  | true => exact ⟨23, by decide, rfl, BitVec.getLsbD_allOnes.trans (by decide)⟩
  | false => exact ⟨24, by decide, rfl, BitVec.getLsbD_allOnes.trans (by decide)⟩

theorem driveOutputs_handed (powerOn tripIn estopIn : Bool) :
    (handedMonitor (onlyResetAlerts powerOn !powerOn) tripIn estopIn (if estopIn then 1 else 0)).driveOutputs
      = resetMonitor powerOn tripIn estopIn := by
  rw [Monitor.driveOutputs, tripSet_handed, attnLevel_handed]
  rfl

/-! ## The end of a reset -/

section Settle

variable (records : Quad CalRecord) (lines : LineLevels) (powerOn : Bool) (pending : List Instr) (k : Nat)

/-- After a reset, TRIP_IN alone can give a condition. -/
theorem base_condition (alerts : Alerts) (m : Monitor) :
    ((State.base records lines alerts pending k).withMon m).condition = fun i => decide (i = .tripIn) && m.tripIn := by
  funext i
  cases i with
  | tripIn => rfl
  | overspeed n | encoder n | link n | mismatch n | sync n =>
    simp only [State.condition, State.linkCondition, State.withMon, State.base, Quad.get_fill, Quad.get_ofFn]
    rfl

/-- The end of the event of a reset: the levels are handed, and ESTOP's trip event follows where its line is
asserted. -/
theorem settle_base : settle (State.base records lines (onlyResetAlerts powerOn !powerOn) pending k) =
    (State.base records lines (onlyResetAlerts powerOn !powerOn) pending k).withMon
      (resetMonitor powerOn lines.tripIn lines.estopIn) := by
  have condition := base_condition records lines pending k (onlyResetAlerts powerOn !powerOn)
  have idle (g : GroupId) :
      ((State.base records lines (onlyResetAlerts powerOn !powerOn) pending k).groups.get g).state.running = false := by
    simp only [State.base, Quad.get_fill]
    rfl
  generalize hb : State.base records lines (onlyResetAlerts powerOn !powerOn) pending k = b at condition idle ⊢
  have clock : b.clock = 0 := hb ▸ rfl
  have mon : b.mon = Monitor.reset (onlyResetAlerts powerOn !powerOn) lines.tripIn lines.estopIn := hb ▸ rfl
  have permit : b.permit = Permit.reset := hb ▸ rfl
  generalize hh : handedMonitor (onlyResetAlerts powerOn !powerOn) lines.tripIn lines.estopIn = handed
  have first : handConditions b = b.withMon (handed 0) := by
    have levels := condition b.mon
    rw [handConditions, clock, show b.condition = _ from levels, mon, ← hh]
    exact congrArg b.withMon (handAll_reset _ _ _)
  have again : handConditions (b.withMon (handed 1)) = b.withMon (handed 1) := by
    rw [handConditions, condition, State.withMon_clock, clock, ← hh]
    exact congrArg b.withMon (handAll_handed _ _ _ 1)
  have trip : ((handConditions b).mon.tripSet && !(handConditions b).mon.tripOut) = lines.estopIn := by
    rw [first, State.withMon_mon, ← hh, tripSet_handed]
    exact Bool.and_true _
  have driven := driveOutputs_handed powerOn lines.tripIn lines.estopIn
  cases estop : lines.estopIn with
  | false =>
    rw [settle_noTrip b (trip.trans estop), first, ← hh]
    rw [estop] at driven ⊢
    exact congrArg b.withMon driven
  | true =>
    have event : tripEvent (b.withMon (handed 0)) = b.withMon (handed 1) := by
      have reset : { b.permit with mask := 0#4, due := none } = b.permit := by rw [permit]; rfl
      rw [tripEvent_idle (s := b.withMon (handed 0)) idle, State.withMon_permit, reset, ← hh]
      rfl
    rw [settle_trip b (trip.trans estop), first, event, again, ← hh]
    rw [estop] at driven ⊢
    exact congrArg b.withMon driven

theorem atReset_base : AtReset ((State.base records lines (onlyResetAlerts powerOn !powerOn) pending k).withMon
      (resetMonitor powerOn lines.tripIn lines.estopIn)) lines := by
  have slots : ∀ e ∈ Ring.reset.slots, e = none := fun e he => List.eq_of_mem_replicate he
  refine ⟨rfl, rfl, fun n => Quad.get_ofFn _ n, fun n => Quad.get_fill _ n, rfl, rfl, fun n => Quad.get_fill _ n,
    fun g => Quad.get_fill _ g, fun n => Quad.get_fill _ n, rfl, fun g => Quad.get_fill _ g, rfl, rfl, rfl,
    fun i other => ?_, rfl, rfl, rfl, rfl, rfl, rfl, rfl, rfl, rfl, rfl, rfl, fun g => Quad.get_fill _ g,
    fun g => ?_, rfl⟩
  · cases i with
    | tripIn => exact absurd rfl other
    | overspeed n | encoder n | link n | mismatch n | sync n => exact Quad.get_fill _ n
  · simp only [State.withMon, State.base, Quad.get_fill]
    exact ⟨rfl, slots, rfl, rfl⟩

end Settle

/-- Settles O55. -/
theorem resets : Obligations.Resets := by
  refine ⟨fun s lines => ?_, fun s x tx orders due => ?_⟩
  · have ends : exec (.coldReset lines) s
        = .next ((coldReset lines s).withMon (resetMonitor true lines.tripIn lines.estopIn)) :=
      congrArg Host.Outcome.next (settle_base s.cal.records lines true s.pending s.freeCount)
    exact ⟨_, ends, atReset_base s.cal.records lines true s.pending s.freeCount, rfl, rfl, rfl⟩
  · have done : s.port.replyDone s.clock = true := by simp [Port.replyDone, tx, dueAt, due]
    have ordered : s.port.resetOrdered = true := by simp only [Port.resetOrdered, tx, orders]
    have ends : settle (portReset s) = (portReset s).withMon (resetMonitor false s.lines.tripIn s.lines.estopIn) :=
      settle_base s.cal.records s.lines false s.pending s.freeCount
    have reset : effect .portReset s = portReset s := if_pos (by rw [ordered, done]; rfl)
    have sent : effect .replySent s = portReset s := by
      simp only [effect, done, if_true, endReply, ordered]
    exact ⟨_, (exec_effect .portReset s).trans (congrArg Host.Outcome.next ((congrArg settle reset).trans ends)),
      (exec_effect .replySent s).trans (congrArg Host.Outcome.next ((congrArg settle sent).trans ends)),
      atReset_base s.cal.records s.lines false s.pending s.freeCount, rfl, rfl, rfl⟩

end Sys2Proof.Machine
end
